-- ==== Sys2Proof/Word.lean ====
section
/-! DEFINITION. The word types of the part: the 32-bit quantities that the manual forms modulo 2^32 (positions,
TIME_MS, tags, record numbers) and the bytes of the serial ports. -/

namespace Sys2Proof

/-- A quantity of 32 bits formed modulo 2^32 (positions, TIME_MS, tags, numbers). -/
abbrev Word := BitVec 32

/-- One byte on a serial port (Section 11). -/
abbrev Byte := BitVec 8

end Sys2Proof
end

