-- ==== Sys2Proof/Syntax.lean ====
section
/-! DEFINITION. The commands and events of the part: one constructor of `Instr` per row of spec/opcode_table.json.
A port command carries the port and the payload bytes of the frame that completes; an event that reads an input carries
the level or current that it reads. -/

namespace Sys2Proof

/-- The three serial ports (Table 0.1). -/
inductive Port
  | m | t | l
  deriving DecidableEq, Repr

/-- The heater channels, numbered 0 to 3 in this order (R91). -/
inductive Channel
  | z1 | z2 | z3 | pot
  deriving DecidableEq, Repr

/-- The wave pumps (Section 6). -/
inductive Pump
  | chip | main
  deriving DecidableEq, Repr

/-- The extraction hoods, numbered 0 to 2 in this order (Section 8). -/
inductive Hood
  | flux | preheat | wave
  deriving DecidableEq, Repr

/-- The input levels that a reset loads from the pins (R1, R14, R135, R173), the pump run feedback inputs and the end-of-wire
input (Table 0.5, R149). -/
structure InputPins where
  encA : Bool
  encB : Bool
  entryBlocked : Bool
  exitBlocked : Bool
  estopActive : Bool
  probeHome : Bool
  runChip : Bool
  runMain : Bool
  wireEnd : Bool
  deriving DecidableEq, Repr

/-- The commands and events that change the part's state, in the order of spec/opcode_table.json. -/
inductive Instr
  /-- ENCODER_COUNT (R1): ENC_A and ENC_B change to the levels `a` and `b`. -/
  | encoderCount (a b : Bool)
  /-- QUADRATURE_GLITCH (R4): ENC_A and ENC_B both change at once. -/
  | quadratureGlitch
  /-- SPEED_WINDOW_END (R5): a 100 ms speed window ends. -/
  | speedWindowEnd
  /-- STALL (R7): the stall timer stands at or past the stall timeout. -/
  | stall
  /-- ENTRY_LEADING_EDGE (R14): ENTRY_N is taken BLOCKED. -/
  | entryLeadingEdge
  /-- ENTRY_TRAILING_EDGE (R15): ENTRY_N is taken CLEAR. -/
  | entryTrailingEdge
  /-- EXIT_LEADING_EDGE (R21): EXIT_N is taken BLOCKED. -/
  | exitLeadingEdge
  /-- EXIT_TRAILING_EDGE (R22): EXIT_N is taken CLEAR. -/
  | exitTrailingEdge
  /-- ADMIT_GRACE_EXPIRY (R36): the grace of ADMIT runs out. -/
  | admitGraceExpiry
  /-- SET_GEOMETRY (R9): its frame completes on port `p`. -/
  | setGeometry (p : Port) (payload : List Byte)
  /-- ADD_TICKET (R29): its frame completes on port `p`. -/
  | addTicket (p : Port) (payload : List Byte)
  /-- WITHDRAW_TICKET (R30): its frame completes on port `p`. -/
  | withdrawTicket (p : Port) (payload : List Byte)
  /-- FLUSH_TICKETS (R31): its frame completes on port `p`. -/
  | flushTickets (p : Port) (payload : List Byte)
  /-- SET_DEFAULT (R32): its frame completes on port `p`. -/
  | setDefault (p : Port) (payload : List Byte)
  /-- LOAD_PROFILE (R48): its frame completes on port `p`. -/
  | loadProfile (p : Port) (payload : List Byte)
  /-- ERASE_PROFILE (R49): its frame completes on port `p`. -/
  | eraseProfile (p : Port) (payload : List Byte)
  /-- SELECT_PROFILE (R55): its frame completes on port `p`. -/
  | selectProfile (p : Port) (payload : List Byte)
  /-- LOAD_RECIPE (R51): its frame completes on port `p`. -/
  | loadRecipe (p : Port) (payload : List Byte)
  /-- ERASE_RECIPE (R52): its frame completes on port `p`. -/
  | eraseRecipe (p : Port) (payload : List Byte)
  /-- SET_NOZZLE (R65): its frame completes on port `p`. -/
  | setNozzle (p : Port) (payload : List Byte)
  /-- REFILL_FLUX (R80): its frame completes on port `p`. -/
  | refillFlux (p : Port) (payload : List Byte)
  /-- VALVE_ON_END (R66): the on time of lane `l`'s pulse ends. -/
  | valveOnEnd (l : Fin 8)
  /-- HOLDOFF_END (R66): the off time of lane `l` ends. -/
  | holdoffEnd (l : Fin 8)
  /-- FLUX_PRESSURE_SAMPLE (R77): FLUX_P is sampled at `current` microamperes. -/
  | fluxPressureSample (current : Nat)
  /-- FLUX_PRESSURE (R78): the qualify count stands at 5 samples out of band. -/
  | fluxPressure
  /-- ACK_FLUX (R79): its frame completes on port `p`. -/
  | ackFlux (p : Port) (payload : List Byte)
  /-- TC_SAMPLE (R92): channel `c` is converted; `none` is an open thermocouple circuit. -/
  | tcSample (c : Channel) (conv : Option Int)
  /-- TC_OPEN (R104): channel `c` stands at its third consecutive invalid sample. -/
  | tcOpen (c : Channel)
  /-- HALF_CYCLE (R98): an edge of the ZC input. -/
  | halfCycle
  /-- MAINS_SYNC (R103): 25 ms have passed without a half-cycle. -/
  | mainsSync
  /-- ACK_HEATER (R107): its frame completes on port `p`. -/
  | ackHeater (p : Port) (payload : List Byte)
  /-- PYRO_SAMPLE (R111): PYRO is sampled at `current` microamperes. -/
  | pyroSample (current : Nat)
  /-- PARK_TIME_TICK (R113): a 100 ms boundary in HOLD. -/
  | parkTimeTick
  /-- POT_MOLTEN_SET (R116): the melt timer of a qualifying POT sample stands at the melt hold. -/
  | potMoltenSet
  /-- PUMP_RAMP_STEP (R119): a 100 ms boundary at the pumps. -/
  | pumpRampStep
  /-- PUMP_FEEDBACK_CHANGE (R119): pump `p`'s run feedback becomes `present`. -/
  | pumpFeedbackChange (p : Pump) (present : Bool)
  /-- MINIMUM_OFF_EXPIRY (R119): pump `p`'s minimum-off timer runs out. -/
  | minimumOffExpiry (p : Pump)
  /-- PUMP_FAULT (R125): pump `p`'s feedback has been absent for 500 ms. -/
  | pumpFault (p : Pump)
  /-- WAVE_UP (R121): its frame completes on port `p`. -/
  | waveUp (p : Port) (payload : List Byte)
  /-- WAVE_DOWN (R122): its frame completes on port `p`. -/
  | waveDown (p : Port) (payload : List Byte)
  /-- ACK_PUMP (R126): its frame completes on port `p`. -/
  | ackPump (p : Port) (payload : List Byte)
  /-- SETTLED (R60): the settle timer stands at the settle time. -/
  | settled
  /-- LEVEL_INTERVAL_EXPIRY (R140): the level interval runs out. -/
  | levelIntervalExpiry
  /-- MEASUREMENT_START (R141): an evaluation of the start conditions; PRB_CONT reads `contact` before the first down step,
  and PRB_HOME stands at `home` after it. -/
  | measurementStart (contact home : Bool)
  /-- PROBE_DOWN_STEP (R136): the next down step, when its time has come, and the reading after it, or the reading after the
  first step of the descent; PRB_CONT reads `contact` and PRB_HOME stands at `home`. -/
  | probeDownStep (contact home : Bool)
  /-- PROBE_CONTACT_LOST (R136): PRB_CONT is lost in CONTACT. -/
  | probeContactLost
  /-- LEVEL_RESULT (R144): contact has persisted for 20 ms. -/
  | levelResult
  /-- PROBE_UP_STEP (R137): the next up step, when its time has come, and the reading after it, or the reading after the
  first step of the ascent; PRB_HOME reads `home`. -/
  | probeUpStep (home : Bool)
  /-- LEVEL_GAP (R142): the 100 ms check of the request's age. -/
  | levelGap
  /-- FEED_STEP (R147): the time for a feed step has come. -/
  | feedStep
  /-- FEED_END (R147): 5 ms have passed after the last feed step. -/
  | feedEnd
  /-- MELT_SETTLE_END (R147): the melt settle runs out. -/
  | meltSettleEnd
  /-- BUDGET_REFILL (R148): a boundary of 60,000 ms. -/
  | budgetRefill
  /-- WIRE_OUT (R149): WIRE_END has held active for 50 ms. -/
  | wireOut
  /-- ACK_LEVEL (R145): its frame completes on port `p`. -/
  | ackLevel (p : Port) (payload : List Byte)
  /-- HOOD_SAMPLE (R153): hood `h` is sampled, its pressure input at `current` microamperes and its fan feedback `fan`. -/
  | hoodSample (h : Hood) (current : Nat) (fan : Bool)
  /-- FAN_STOP (R158): hood `h`'s fan-off count stands at 20. -/
  | fanStop (h : Hood)
  /-- FLOW_LOSS (R158): hood `h`'s loss count stands at the qualify count. -/
  | flowLoss (h : Hood)
  /-- FLOW_WARN (R158): hood `h`'s warn count stands at the qualify count. -/
  | flowWarn (h : Hood)
  /-- HOOD_RECOVERY (R160): hood `h`'s good count stands at the qualify count. -/
  | hoodRecovery (h : Hood)
  /-- HOOD_PROVEN (R162): hood `h`'s good count stands at the prove time. -/
  | hoodProven (h : Hood)
  /-- EXTRACTION_ESCALATED (R165): hood `h`'s escalation timer stands at the grace. -/
  | extractionEscalated (h : Hood)
  /-- ACK_HOOD (R161): its frame completes on port `p`. -/
  | ackHood (p : Port) (payload : List Byte)
  /-- ESTOP_N_CHANGE (R173): ESTOP_N is taken `active` or inactive. -/
  | estopChange (active : Bool)
  /-- WARM (R174): its frame completes on port `p`. -/
  | warm (p : Port) (payload : List Byte)
  /-- COOL (R175): its frame completes on port `p`. -/
  | cool (p : Port) (payload : List Byte)
  /-- START (R176): its frame completes on port `p`. -/
  | start (p : Port) (payload : List Byte)
  /-- STOP (R177): its frame completes on port `p`. -/
  | stop (p : Port) (payload : List Byte)
  /-- HOLD (R178): its frame completes on port `p`. -/
  | hold (p : Port) (payload : List Byte)
  /-- RESUME (R179): its frame completes on port `p`. -/
  | resume (p : Port) (payload : List Byte)
  /-- TRIP (R181): its frame completes on port `p`. -/
  | trip (p : Port) (payload : List Byte)
  /-- CLEAR (R182): its frame completes on port `p`. -/
  | clear (p : Port) (payload : List Byte)
  /-- RESTART (R204): its frame completes on port `p`. -/
  | restart (p : Port) (payload : List Byte)
  /-- ACK_TRACK (R13): its frame completes on port `p`. -/
  | ackTrack (p : Port) (payload : List Byte)
  /-- SILENCE (R188): its frame completes on port `p`. -/
  | silence (p : Port) (payload : List Byte)
  /-- POP_OUTCOME (R191): its frame completes on port `p`. -/
  | popOutcome (p : Port) (payload : List Byte)
  /-- PEEK_OUTCOME (R191): its frame completes on port `p`. -/
  | peekOutcome (p : Port) (payload : List Byte)
  /-- READ_INCIDENTS (R194): its frame completes on port `p`. -/
  | readIncidents (p : Port) (payload : List Byte)
  /-- CLEAR_INCIDENTS (R194): its frame completes on port `p`. -/
  | clearIncidents (p : Port) (payload : List Byte)
  /-- SET_PARAM (R203): its frame completes on port `p`. -/
  | setParam (p : Port) (payload : List Byte)
  /-- READ_PARAM (R203): its frame completes on port `p`. -/
  | readParam (p : Port) (payload : List Byte)
  /-- SET_EVENT_MASK (R202): its frame completes on port `p`. -/
  | setEventMask (p : Port) (payload : List Byte)
  /-- GET_EVENTS (R202): its frame completes on port `p`. -/
  | getEvents (p : Port) (payload : List Byte)
  /-- READ_STATUS (R201): its frame completes on port `p`. -/
  | readStatus (p : Port) (payload : List Byte)
  /-- READ_ADMISSION (R201): its frame completes on port `p`. -/
  | readAdmission (p : Port) (payload : List Byte)
  /-- READ_TRACK (R201): its frame completes on port `p`. -/
  | readTrack (p : Port) (payload : List Byte)
  /-- READ_BOARD (R201): its frame completes on port `p`. -/
  | readBoard (p : Port) (payload : List Byte)
  /-- READ_GEOMETRY (R201): its frame completes on port `p`. -/
  | readGeometry (p : Port) (payload : List Byte)
  /-- READ_PROFILE (R201): its frame completes on port `p`. -/
  | readProfile (p : Port) (payload : List Byte)
  /-- READ_RECIPE (R201): its frame completes on port `p`. -/
  | readRecipe (p : Port) (payload : List Byte)
  /-- READ_FLUX (R201): its frame completes on port `p`. -/
  | readFlux (p : Port) (payload : List Byte)
  /-- READ_HEATER (R201): its frame completes on port `p`. -/
  | readHeater (p : Port) (payload : List Byte)
  /-- READ_PUMPS (R201): its frame completes on port `p`. -/
  | readPumps (p : Port) (payload : List Byte)
  /-- READ_LEVEL (R201): its frame completes on port `p`. -/
  | readLevel (p : Port) (payload : List Byte)
  /-- READ_EXTRACTION (R201): its frame completes on port `p`. -/
  | readExtraction (p : Port) (payload : List Byte)
  /-- READ_ALARMS (R201): its frame completes on port `p`. -/
  | readAlarms (p : Port) (payload : List Byte)
  /-- UNKNOWN_COMMAND (R198): a frame whose CMD byte `code` is in no command table completes on port `p`. -/
  | unknownCommand (p : Port) (code : Byte) (payload : List Byte)
  /-- FRAME_CRC_ERROR (R196): the second CRC byte `last` completes a frame whose CRC differs. -/
  | frameCrcError (p : Port) (last : Byte)
  /-- FRAME_TIMEOUT (R196): more than 10 ms have passed since the last byte of a partial frame. -/
  | frameTimeout (p : Port)
  /-- FRAME_DISCARDED (R197): the second CRC byte `last` completes a frame while another waits. -/
  | frameDiscarded (p : Port) (last : Byte)
  /-- RESPONSE_SENT (R197): the last stop bit of port `p`'s response has been sent. -/
  | responseSent (p : Port)
  /-- POWER_ON_RESET (R183): power is applied with the input pins at `pins`. -/
  | powerOnReset (pins : InputPins)
  /-- PIN_RESET (R206): RESET_N is active with the input pins at `pins`. -/
  | pinReset (pins : InputPins)
  /-- BYTE_RECEIVED (R196): the byte `b` is received on port `p`, with or without a framing error. -/
  | byteReceived (p : Port) (b : Byte) (framingError : Bool)
  /-- ALARM_BLINK_PHASE (R186): a TIME_MS boundary at which a blinking mode changes phase. -/
  | alarmBlinkPhase
  deriving DecidableEq, Repr

end Sys2Proof
end

