-- ==== Sys2Proof/Config.lean ====
section
/-! DEFINITION. The numbers that the manual fixes for the part. The manual leaves no value of an instruction's result
open that this model had to keep as a free value (NOTES.md says so). The one opaque constant is an input: the level of WIRE_END,
which no row of the command table carries. -/

namespace Sys2Proof.Config

/-- R3: the excursion above which the reverse limit is taken. -/
def reverseLimit : Nat := 500
/-- R10: records in the board table. -/
def tableMax : Nat := 12
/-- R10, R190: records plus outcomes. -/
def boardsMax : Nat := 16
/-- R28: tickets in the queue. -/
def ticketMax : Nat := 4
/-- R15: lengths below this are debris. -/
def lengthMin : Nat := 500
/-- R15, R16: the longest length recorded. -/
def lengthMax : Nat := 6000
/-- R64: the owed-pulse counter saturates here. -/
def owedMax : Nat := 15
/-- R67, R70: delivered and shortfall counts saturate here. -/
def doseMax : Nat := 65535
/-- R80: the largest reservoir estimate, in nanolitres. -/
def reservoirMax : Nat := 4000000000
/-- R95: the largest integral. -/
def integralMax : Int := 256000
/-- R100: the cap of a firing accumulator. -/
def firingMax : Nat := 1999
/-- R106: the overtemperature limit that no setpoint raises. -/
def overtempCeiling : Int := 4000
/-- R98: an edge sooner than this after the last half-cycle is ignored, in ms. -/
def halfCycleMin : Nat := 4
/-- R98, R103: mains sync is present for less than this since the last half-cycle, in ms. -/
def mainsLimit : Nat := 25
/-- R125: feedback absent for this long latches PUMP_FAULT, in ms. -/
def feedbackLimit : Nat := 500
/-- R136: the most steps of a descent. -/
def downStepsMax : Nat := 600
/-- R137: the most steps of an ascent. -/
def upStepsMax : Nat := 700
/-- R135: time between probe steps, in tenths of a millisecond. -/
def probePace : Nat := 20
/-- R136: contact must persist this long, in tenths of a millisecond. -/
def contactHold : Nat := 200
/-- R147: time between feed steps, in tenths of a millisecond. -/
def feedPace : Nat := 50
/-- R149: WIRE_END must hold active this long, in tenths of a millisecond. -/
def wireHold : Nat := 500
/-- R157: the counts of a hood saturate here. -/
def hoodCountMax : Nat := 1200
/-- R158: the fan-off count that latches FAN_STOP. -/
def fanStopCount : Nat := 20
/-- R78: the consecutive samples out of band that latch FLUX_PRESSURE. -/
def pressureCount : Nat := 5
/-- R104: the consecutive invalid samples that latch TC_OPEN. -/
def tcOpenCount : Nat := 3
/-- R193: records in the incident list. -/
def incidentMax : Nat := 32
/-- R194, R201: records in one READ_INCIDENTS answer. -/
def incidentRead : Nat := 4
/-- R196: the longest payload. -/
def payloadMax : Nat := 96
/-- R196: the longest gap between two bytes of a frame, in tenths of a millisecond. -/
def frameGapMax : Nat := 100

/-- The level of WIRE_END at the end of the n-th tenth of a millisecond, which the world outside decides: a free value (DESIGN
CHOICE, notes/assumptions/12.md). -/
opaque wireEnd : Nat → Bool

end Sys2Proof.Config
end

