-- ==== Sys2Proof/Machine/State.lean ====
section
/-! DEFINITION. The state of the part as plain data, block by block (Table 0.2), its reset value, and the reasons a
step could stop. Outputs that the manual makes a function of other state (HEAT_EN, HOLDREQ, ATTN, PREF, the flux valves)
are not stored a second time; Machine/Flags.lean gives them. -/

namespace Sys2Proof.Machine

/-- No event and no command of the manual stops the part, so no meaning faults: the type has no constructor (safe). -/
inductive Fault
  deriving DecidableEq, Repr

/-- Why a step could be refused. -/
inductive Refusal
  /-- Raised by exec for a row of the opcode table that has no meaning yet; no row is left so (safe). -/
  | notModelled (mnemonic : String)
  deriving DecidableEq, Repr

/-! ## Values kept per port, channel, zone, pump, hood and alarm line -/

/-- The preheat zones (Table 1.1). -/
inductive Zone
  | z1 | z2 | z3
  deriving DecidableEq, Repr

/-- The alarm lines (Section 10). -/
inductive Line
  | alm1 | alm2
  deriving DecidableEq, Repr

/-- One value per serial port. -/
structure PerPort (α : Type) where
  m : α
  t : α
  l : α
  deriving DecidableEq, Repr

/-- One value per heater channel. -/
structure PerChannel (α : Type) where
  z1 : α
  z2 : α
  z3 : α
  pot : α
  deriving DecidableEq, Repr

/-- One value per preheat zone. -/
structure PerZone (α : Type) where
  z1 : α
  z2 : α
  z3 : α
  deriving DecidableEq, Repr

/-- One value per wave pump. -/
structure PerPump (α : Type) where
  chip : α
  main : α
  deriving DecidableEq, Repr

/-- One value per hood. -/
structure PerHood (α : Type) where
  flux : α
  preheat : α
  wave : α
  deriving DecidableEq, Repr

/-- One value per alarm line. -/
structure PerLine (α : Type) where
  alm1 : α
  alm2 : α
  deriving DecidableEq, Repr

/-- A sampled input: not yet sampled, sampled with an invalid signal, or a value. -/
inductive Sample (α : Type)
  | none
  | invalid
  | valid (v : α)
  deriving DecidableEq, Repr

/-! ## Parameters (Table 11.5) -/

/-- The flux policy (Table 4.6) and the flux inhibit mode (R82). -/
inductive InhibitMode
  | cut | finish
  deriving DecidableEq, Repr

/-- The consequence policies of a hood (Table 8.1). -/
inductive Policy
  | warnOnly | inhibitFlux | drain | drainThenTrip | trip
  deriving DecidableEq, Repr

/-- The modes of an alarm line (Table 10.2). -/
inductive LineMode
  | steady | blink1Hz | blink2Hz
  deriving DecidableEq, Repr

/-- The per-channel parameters of Table 5.2. -/
structure Gains where
  kp : Nat
  ki : Nat
  pmax : Nat
  deriving DecidableEq, Repr

/-- The per-hood parameters of Table 8.1. -/
structure HoodParams where
  enabled : Bool
  pw : Nat
  pa : Nat
  qualify : Nat
  policy : Policy
  grace : Nat
  deriving DecidableEq, Repr

/-- The per-line parameters of Table 10.2; bit 0 of the class set is EXTRACTION, bit 6 TRIP. -/
structure LineParams where
  classes : BitVec 7
  mode : LineMode
  silenceable : Bool
  deriving DecidableEq, Repr

/-- Every parameter of Table 11.5. -/
structure Params where
  stallTimeout : Nat
  admitGrace : Nat
  pMin : Nat
  pMax : Nat
  reservoirLow : Nat
  fluxPolicy : InhibitMode
  gains : PerChannel Gains
  holdLimit : Nat
  concurrency : Nat
  overtempMargin : Nat
  parkLimit : Nat
  meltHold : Nat
  ramp : Nat
  minimumOff : Nat
  idleSpeed : Nat
  nNom : Nat
  levelInterval : Nat
  deferral : Nat
  approach : Nat
  levelH : Int
  levelT : Int
  levelW : Int
  levelC : Int
  feedGain : Nat
  maxFeed : Nat
  budgetMax : Nat
  refill : Nat
  meltSettle : Nat
  hoods : PerHood HoodParams
  proveTime : Nat
  lines : PerLine LineParams
  deriving DecidableEq, Repr

/-! ## Section 1: the Conveyor Tracker -/

/-- The thirteen values of the station map, in the order of Table 1.1. -/
structure StationMap where
  pf : Nat
  z1in : Nat
  z1out : Nat
  z2in : Nat
  z2out : Nat
  z3in : Nat
  z3out : Nat
  pp : Nat
  pc : Nat
  pm : Nat
  g : Nat
  px : Nat
  w : Nat
  deriving DecidableEq, Repr

/-- The stage of a board record (R10). -/
inductive Stage
  | entering | travel | exiting
  deriving DecidableEq, Repr

/-- The binding origin of a board record (Table 1.2). -/
inductive Origin
  | ticket | default
  deriving DecidableEq, Repr

/-- The flux status of a board record (Table 4.3). -/
inductive FluxStatus
  | notRequired | pending | active | done | partly | skipped
  deriving DecidableEq, Repr

/-- The zone marks, in their rank (Table 5.7). -/
inductive Mark
  | none | ok | low | high | fault
  deriving DecidableEq, Repr

/-- The wave status of a board record (Table 6.3). -/
inductive WaveStatus
  | pending | inWave | done | interrupted
  deriving DecidableEq, Repr

/-- One entry of a lane dose list (Table 1.2). -/
structure LaneDose where
  lane : Fin 8
  delivered : Nat
  shortfall : Nat
  deriving DecidableEq, Repr

/-- The flag set of a board record, in the row order of Table 1.3. -/
structure BoardFlags where
  unscheduled : Bool
  profileMismatch : Bool
  positionUnsure : Bool
  speedDeviation : Bool
  fluxDeviation : Bool
  preheatDeviation : Bool
  toptempDeviation : Bool
  parked : Bool
  waveInterrupted : Bool
  waveDeviation : Bool
  extractionEvent : Bool
  tripped : Bool
  deriving DecidableEq, Repr

/-- No flag set. -/
def BoardFlags.empty : BoardFlags :=
  ⟨false, false, false, false, false, false, false, false, false, false, false, false⟩

/-- A board record (Table 1.2). Entry positions rise strictly along the table (R11), so `entryPos` names a record. -/
structure BoardRecord where
  tag : Option Word
  recipe : Option (Fin 32)
  profile : Option (Fin 8)
  origin : Option Origin
  entryPos : Word
  length : Option Nat
  entryTime : Word
  stage : Stage
  flux : FluxStatus
  doses : List LaneDose
  sprayed : Nat
  marks : PerZone Mark
  topTemp : Option Int
  wave : WaveStatus
  contactMs : Option Nat
  contactStart : Option Word
  parkTime : Nat
  flags : BoardFlags
  deriving DecidableEq, Repr

/-- The Conveyor Tracker: accepted encoder lines, positions, the running speed window, the stall timer, the station map,
the board table (oldest first), the wave-region occupancy, TRACK_ALERT and the taken sensor levels. -/
structure Ctr where
  encA : Bool
  encB : Bool
  pos : Word
  hwm : Word
  net : Int
  counted : Bool
  speed : Int
  stallTimer : Nat
  map : StationMap
  mapValid : Bool
  table : List BoardRecord
  occupancy : Nat
  trackAlert : Bool
  entryBlocked : Bool
  exitBlocked : Bool
  deriving DecidableEq, Repr

/-! ## Section 2: the Admission Unit -/

/-- A ticket (Table 2.1). -/
structure Ticket where
  tag : Option Word
  recipe : Fin 32
  deriving DecidableEq, Repr

/-- The Admission Unit: the ticket queue (front first), the default designation, the ADMIT line and its grace timer
(`none` is IDLE, `some n` is RUNNING for n ms). -/
structure Adu where
  queue : List Ticket
  default : Option (Fin 32)
  admitOn : Bool
  grace : Option Nat
  deriving DecidableEq, Repr

/-! ## Section 3: the Recipe and Profile Store -/

/-- The fields of a LOADED process profile (Table 3.1). -/
structure Profile where
  z1 : Nat
  z2 : Nat
  z3 : Nat
  pot : Nat
  band : Nat
  chip : Nat
  main : Nat
  speedMin : Nat
  speedMax : Nat
  settleTime : Nat
  boost : Nat
  deriving DecidableEq, Repr

/-- The fields of a LOADED recipe (Table 3.3). -/
structure Recipe where
  name : List Byte
  profile : Fin 8
  density : Nat
  laneMask : BitVec 8
  leadIn : Nat
  leadOut : Nat
  contactMin : Nat
  contactMax : Nat
  topMin : Nat
  topMax : Nat
  minGap : Nat
  deriving DecidableEq, Repr

/-- The settle status (R57). -/
inductive SettleStatus
  | unsettled | settling | settled
  deriving DecidableEq, Repr

/-- The Recipe and Profile Store; `none` in a store is an EMPTY record. -/
structure Rps where
  profiles : Vector (Option Profile) 8
  recipes : Vector (Option Recipe) 32
  refs : Vector Nat 32
  active : Option (Fin 8)
  settle : SettleStatus
  settleTimer : Nat
  deriving DecidableEq, Repr

/-! ## Section 4: the Flux Dosing Unit -/

/-- A nozzle record (Table 4.1); times in tenths of a millisecond. -/
structure Nozzle where
  quantum : Nat
  enabled : Bool
  onTime : Nat
  offTime : Nat
  deriving DecidableEq, Repr

/-- The phase of a valve pulse generator (R66), with the time left of it and, in ON, the off time that will follow
(tenths of a millisecond; a pulse ends with the times it started with, R65). -/
inductive GenPhase
  | idle
  | on (left off : Nat)
  | holdoff (left : Nat)
  deriving DecidableEq, Repr

/-- The dosing state of a lane (Table 4.2); `owner` is the entry position of the owning record. -/
structure Lane where
  acc : Nat
  owed : Nat
  owner : Option Word
  window : Bool
  gen : GenPhase
  deriving DecidableEq, Repr

/-- The Flux Dosing Unit. `checked` says that the previous sample was a checked sample (R77); the reservoir is in nl. -/
structure Fdu where
  nozzles : Vector Nozzle 8
  lanes : Vector Lane 8
  pressure : Sample Nat
  checked : Bool
  qualify : Nat
  fluxPressure : Bool
  reservoirLow : Bool
  reservoir : Nat
  inhibit : Option InhibitMode
  deriving DecidableEq, Repr

/-! ## Section 5: the Heater Control Unit -/

/-- The state of a heater channel (Table 5.1). `margin`, `pmax` and `holdLimit` are the overtemperature margin, Pmax and hold
limit in force on the channel: a new value of a parameter takes effect at the channel's next sample (R93). -/
structure Heater where
  sample : Sample Int
  invalid : Nat
  integral : Int
  power : Nat
  firing : Nat
  ssr : Bool
  tcOpen : Bool
  overtemp : Bool
  margin : Nat
  pmax : Nat
  holdLimit : Nat
  deriving DecidableEq, Repr

/-- The Heater Control Unit; `edgeSeen` says that a half-cycle has been taken since the reset (R98). -/
structure Hcu where
  ch : PerChannel Heater
  rr : Nat
  lastHalf : Word
  edgeSeen : Bool
  mainsSync : Bool
  pyro : Sample Int
  deriving DecidableEq, Repr

/-! ## Section 6: the Wave Pump Unit -/

/-- The states of a pump (Table 6.2). -/
inductive PumpStage
  | off | starting | running | dipped | stopping | cooldown
  deriving DecidableEq, Repr

/-- The state of a pump (R118). `fresh` says that it entered its state at the present TIME_MS, so that its first ramp step
is at the next multiple of 100 (R119). -/
structure PumpState where
  stage : PumpStage
  reference : Nat
  target : Nat
  minOff : Nat
  absent : Nat
  fault : Bool
  feedback : Bool
  fresh : Bool
  deriving DecidableEq, Repr

/-- The Wave Pump Unit; `meltStart` is the TIME_MS of a running melt timer, `ripe` the TIME_MS of the latest POT sample where
that sample qualified and found the melt timer at the melt hold (R116), `notReadySeen` the note of R132. -/
structure Wpu where
  molten : Bool
  meltStart : Option Word
  ripe : Option Word
  orderUp : Bool
  pumps : PerPump PumpState
  notReadySeen : Bool
  deriving DecidableEq, Repr

/-! ## Section 7: the Level Unit -/

/-- The probe states (Table 7.1). -/
inductive ProbeStage
  | parked | descending | contact | ascending | halted
  deriving DecidableEq, Repr

/-- The feeder states (Table 7.4); in FEEDING, the steps still to give and the steps given. -/
inductive Feeder
  | idle
  | feeding (left given : Nat)
  | settling
  deriving DecidableEq, Repr

/-- The Level Unit. `pace`, `contactTimer`, `feedPace` and `wireTimer` (the qualify time of WIRE_END) count tenths of a millisecond; `afterResult` says
that the ascent follows a result (R137); `dirUp` is PRB_DIR; `unread` says that the input read after the first step of a
descent or ascent is still to be reported (R136, R137); `target` is the threshold T with which the last level was taken
(R139); `startDue` says that an advance of this 0.1 ms found every condition of a measurement start (R141). -/
structure Lvu where
  probe : ProbeStage
  steps : Nat
  pace : Nat
  contactTimer : Nat
  afterResult : Bool
  dirUp : Bool
  unread : Bool
  startDue : Bool
  last : Option (Int × Word)
  target : Int
  interval : Option Nat
  request : Option Word
  gap : Bool
  feeder : Feeder
  feedPace : Nat
  settleTimer : Nat
  budget : Nat
  high : Bool
  low : Bool
  critical : Bool
  probeFault : Bool
  feedBudget : Bool
  wireOut : Bool
  wireTimer : Nat
  deriving DecidableEq, Repr

/-! ## Section 8: the Extraction Monitor -/

/-- The state of a hood; `supervised` says that its previous sample was a supervised sample (R154). `qualify`, `proveTime`
and `grace` are the times in force on the hood: a new value of a parameter applies from the next sample (R155). -/
structure HoodState where
  pressure : Sample Nat
  fan : Bool
  supervised : Bool
  warn : Nat
  loss : Nat
  fanOff : Nat
  good : Nat
  holdOff : Nat
  flowWarn : Bool
  flowLoss : Bool
  fanStop : Bool
  escalated : Bool
  lossActive : Bool
  timer : Nat
  proven : Bool
  qualify : Nat
  proveTime : Nat
  grace : Nat
  deriving DecidableEq, Repr

/-- The Extraction Monitor. -/
structure Exm where
  hoods : PerHood HoodState
  deriving DecidableEq, Repr

/-! ## Section 9: the Process State Controller -/

/-- The trip causes with their subjects (Table 9.5). -/
inductive TripCause
  | estop | command | overtemp (c : Channel) | tcOpenPot | mainsSync | escalated (h : Hood) | hoodTrip (h : Hood)
  | trackOverflow
  deriving DecidableEq, Repr

/-- The substates of HOLD (R170). -/
inductive HoldSub
  | holding | resuming
  deriving DecidableEq, Repr

/-- The prior state of HOLD (R170). -/
inductive Prior
  | run | drain
  deriving DecidableEq, Repr

/-- The process state (Table 9.1). The substate and prior state exist in HOLD alone and the trip cause in TRIP alone
(R170). -/
inductive ProcState
  | standby | warming | ready | run | drain
  | hold (sub : HoldSub) (prior : Prior)
  | trip (cause : TripCause)
  deriving DecidableEq, Repr

/-- The Process State Controller; `estop` is the taken level of ESTOP_N, true when active. -/
structure Psc where
  state : ProcState
  estop : Bool
  deriving DecidableEq, Repr

/-! ## Section 10: alarm lines, outcomes and incidents -/

/-- An alarm line: its silence state and whether its output conducts (R186). -/
structure LineState where
  silenced : Bool
  conducting : Bool
  deriving DecidableEq, Repr

/-- The Alarm Output Unit. -/
structure Aou where
  lines : PerLine LineState
  deriving DecidableEq, Repr

/-- The verdicts, in the code order of Table 11.8. -/
inductive Verdict
  | pass | deviated | reject | lost
  deriving DecidableEq, Repr

/-- An outcome record (Table 10.4). -/
structure Outcome where
  number : Word
  tag : Option Word
  recipe : Option (Fin 32)
  verdict : Verdict
  flags : BoardFlags
  entryTime : Word
  exitTime : Word
  length : Nat
  flux : FluxStatus
  doses : List LaneDose
  marks : PerZone Mark
  topTemp : Option Int
  wave : WaveStatus
  contactMs : Option Nat
  deriving DecidableEq, Repr

/-- The Outcome Queue, oldest first, and the outcome counter. -/
structure Oq where
  outcomes : List Outcome
  counter : Word
  deriving DecidableEq, Repr

/-- The incident codes, in the order of Table 10.10. -/
inductive IncidentCode
  | reverseLimit | encoderGlitch | stall | sensorReversed | noGeometry | trackOverflow | debris | overlength
  | phantomExit | boardLost | exitJam | unexpectedBoard | profileSwitch | fluxHandover | fluxPressure | reservoirLow
  | fluxCut | sensorFault | mainsSync | tcOpen | overtemp | moltenLost | pumpFault | probeFault | levelGap
  | levelAbandoned | levelHigh | levelLow | levelCritical | feedBudget | wireOut | flowWarn | flowLoss | fanStop
  | extractionEscalated | stateTrip | outcomesDiscarded | deniedCommand
  deriving DecidableEq, Repr

/-- The incident subjects (Table 10.11). -/
inductive Subject
  | entry | exit | fluxP | pyro | lane (l : Fin 8) | channel (c : Channel) | pump (p : Pump) | hood (h : Hood)
  | port (p : Port)
  deriving DecidableEq, Repr

/-- An incident record (Table 10.9). -/
structure Incident where
  number : Word
  time : Word
  code : IncidentCode
  subject : Option Subject
  tag : Option Word
  value : Option Word
  deriving DecidableEq, Repr

/-- The Incident List, oldest first, and the incident counter. -/
structure Inl where
  incidents : List Incident
  counter : Word
  deriving DecidableEq, Repr

/-! ## Section 11: the Serial Command Ports -/

/-- A complete frame with a correct CRC: its CMD byte and its payload (Table 11.6). -/
structure Frame where
  cmd : Byte
  payload : List Byte
  deriving DecidableEq, Repr

/-- The state of a port. `rx` is `none` while hunting and otherwise the bytes received after H'A5; `gap` is the time since
the last of them in tenths of a millisecond; `answering` is the response frame in transmission. -/
structure PortState where
  rx : Option (List Byte)
  gap : Nat
  waiting : Option Frame
  answering : Option (List Byte)
  events : BitVec 6
  mask : BitVec 6
  deriving DecidableEq, Repr

/-- The Serial Command Ports. -/
structure Scp where
  ports : PerPort PortState
  deriving DecidableEq, Repr

/-! ## The whole part -/

/-- The state of the part. `timeMs` is TIME_MS, `tenth` the tenths of the present millisecond already passed (the model's
own), `pins` the present levels of the input pins, which the world sets (notes/assumptions/48.md), `pending` the commands
that wait, first in first out. -/
structure State where
  timeMs : Word
  tenth : Nat
  wireReads : Nat
  pins : InputPins
  params : Params
  ctr : Ctr
  adu : Adu
  rps : Rps
  fdu : Fdu
  hcu : Hcu
  wpu : Wpu
  lvu : Lvu
  exm : Exm
  psc : Psc
  aou : Aou
  oq : Oq
  inl : Inl
  scp : Scp
  pending : List Instr
  deriving DecidableEq, Repr

/-! ## Reset values -/

/-- The defaults of Table 11.5 and of the tables it names. -/
def Params.defaults : Params where
  stallTimeout := 2000
  admitGrace := 200
  pMin := 150
  pMax := 300
  reservoirLow := 250000
  fluxPolicy := .finish
  gains := ⟨⟨40, 12, 1000⟩, ⟨40, 12, 1000⟩, ⟨40, 12, 1000⟩, ⟨40, 12, 1000⟩⟩
  holdLimit := 300
  concurrency := 2
  overtempMargin := 150
  parkLimit := 120
  meltHold := 120
  ramp := 100
  minimumOff := 5
  idleSpeed := 150
  nNom := 300
  levelInterval := 60
  deferral := 90
  approach := 1500
  levelH := 40
  levelT := 0
  levelW := -30
  levelC := -60
  feedGain := 32
  maxFeed := 200
  budgetMax := 1000
  refill := 20
  meltSettle := 30
  hoods := ⟨⟨true, 150, 80, 3, .inhibitFlux, 180⟩, ⟨true, 150, 80, 3, .drain, 180⟩,
    ⟨true, 150, 80, 3, .drainThenTrip, 180⟩⟩
  proveTime := 10
  lines := ⟨⟨0x7F#7, .steady, false⟩, ⟨0x45#7, .blink2Hz, true⟩⟩

/-- A station map of zeros (R8). -/
def StationMap.zero : StationMap := ⟨0, 0, 0, 0, 0, 0, 0, 0, 0, 0, 0, 0, 0⟩

/-- The default nozzle record (Table 4.1). -/
def Nozzle.default : Nozzle := ⟨40, true, 20, 20⟩

/-- A lane's dosing state after each reset (Table 4.2). -/
def Lane.initial : Lane := ⟨0, 0, none, false, .idle⟩

/-- A heater channel after a power-on or pin reset (Table 5.8), with the values in force on it (R93). -/
def Heater.initial (margin pmax holdLimit : Nat) : Heater := ⟨.none, 0, 0, 0, 0, false, false, false, margin, pmax, holdLimit⟩

/-- A pump after a power-on or pin reset (Table 6.4), its feedback input at `feedback`. -/
def PumpState.initial (feedback : Bool) : PumpState := ⟨.off, 0, 0, 0, 0, false, feedback, false⟩

/-- A hood after a power-on or pin reset (Table 8.4) with its parameters in force: a DISABLED hood is proven (R156). -/
def HoodState.initial (hp : HoodParams) (proveTime : Nat) : HoodState :=
  ⟨.none, false, false, 0, 0, 0, 0, 0, false, false, false, false, false, 0, !hp.enabled, hp.qualify, proveTime, hp.grace⟩

/-- A port after a power-on or pin reset with its default mask (Table 11.10, R202). -/
def PortState.initial (mask : BitVec 6) : PortState := ⟨none, 0, none, none, 0#6, mask⟩

/-- The input levels the model gives the pins at `State.reset`: no board at a sensor, the emergency stop inactive, the probe
at home, no pump running, WIRE_END inactive (DESIGN CHOICE, notes/assumptions/1.md). -/
def InputPins.idle : InputPins := ⟨false, false, false, false, false, true, false, false, false⟩

/-- The part right after power-on reset with the pins at `InputPins.idle` and no command waiting. -/
def State.reset : State where
  timeMs := 0
  tenth := 0
  wireReads := 0
  pins := InputPins.idle
  params := Params.defaults
  ctr := { encA := false, encB := false, pos := 0, hwm := 0, net := 0, counted := false, speed := 0, stallTimer := 0,
           map := StationMap.zero, mapValid := false, table := [], occupancy := 0, trackAlert := false,
           entryBlocked := false, exitBlocked := false }
  adu := { queue := [], default := none, admitOn := false, grace := none }
  rps := { profiles := Vector.replicate 8 none, recipes := Vector.replicate 32 none, refs := Vector.replicate 32 0,
           active := none, settle := .unsettled, settleTimer := 0 }
  fdu := { nozzles := Vector.replicate 8 Nozzle.default, lanes := Vector.replicate 8 Lane.initial, pressure := .none,
           checked := false, qualify := 0, fluxPressure := false, reservoirLow := false, reservoir := 0,
           inhibit := none }
  hcu := { ch := ⟨Heater.initial 150 1000 300, Heater.initial 150 1000 300, Heater.initial 150 1000 300,
                  Heater.initial 150 1000 300⟩
           rr := 0, lastHalf := 0, edgeSeen := false, mainsSync := false, pyro := .none }
  wpu := { molten := false, meltStart := none, ripe := none, orderUp := false,
           pumps := ⟨PumpState.initial false, PumpState.initial false⟩, notReadySeen := true }
  lvu := { probe := .parked, steps := 0, pace := 0, contactTimer := 0, afterResult := false, dirUp := true,
           unread := false, startDue := false, last := none, target := 0, interval := some 0, request := none,
           gap := false, feeder := .idle, feedPace := 0, settleTimer := 0, budget := 1000, high := false, low := false,
           critical := false, probeFault := false, feedBudget := false, wireOut := false, wireTimer := 0 }
  exm := { hoods := ⟨HoodState.initial Params.defaults.hoods.flux 10, HoodState.initial Params.defaults.hoods.preheat 10,
                     HoodState.initial Params.defaults.hoods.wave 10⟩ }
  psc := { state := .standby, estop := false }
  aou := { lines := ⟨⟨false, false⟩, ⟨false, false⟩⟩ }
  oq := { outcomes := [], counter := 0 }
  inl := { incidents := [], counter := 0 }
  scp := { ports := ⟨PortState.initial 0x07#6, PortState.initial 0x3F#6, PortState.initial 0x08#6⟩ }
  pending := []

end Sys2Proof.Machine
end

