-- ==== Sys2Proof/Machine/Ops.lean ====
section
/-! DEFINITION. The named operations over the state that every family shares: reading and writing one item of a set
kept per port, channel or other unit, the modulo-2^32 comparisons, the geometry of a board, record updates, reference
counts, port events, incidents and new latches. -/

namespace Sys2Proof.Machine

/-! ## One item of a set kept per unit -/

def PerPort.get {α : Type} (q : PerPort α) : Port → α
  | .m => q.m
  | .t => q.t
  | .l => q.l

def PerPort.set {α : Type} (q : PerPort α) (p : Port) (v : α) : PerPort α :=
  match p with
  | .m => { q with m := v }
  | .t => { q with t := v }
  | .l => { q with l := v }

def PerPort.map {α β : Type} (f : α → β) (q : PerPort α) : PerPort β := ⟨f q.m, f q.t, f q.l⟩

def PerChannel.get {α : Type} (q : PerChannel α) : Channel → α
  | .z1 => q.z1
  | .z2 => q.z2
  | .z3 => q.z3
  | .pot => q.pot

def PerChannel.set {α : Type} (q : PerChannel α) (c : Channel) (v : α) : PerChannel α :=
  match c with
  | .z1 => { q with z1 := v }
  | .z2 => { q with z2 := v }
  | .z3 => { q with z3 := v }
  | .pot => { q with pot := v }

def PerChannel.map {α β : Type} (f : α → β) (q : PerChannel α) : PerChannel β := ⟨f q.z1, f q.z2, f q.z3, f q.pot⟩

def PerZone.get {α : Type} (q : PerZone α) : Zone → α
  | .z1 => q.z1
  | .z2 => q.z2
  | .z3 => q.z3

def PerZone.set {α : Type} (q : PerZone α) (z : Zone) (v : α) : PerZone α :=
  match z with
  | .z1 => { q with z1 := v }
  | .z2 => { q with z2 := v }
  | .z3 => { q with z3 := v }

def PerPump.get {α : Type} (q : PerPump α) : Pump → α
  | .chip => q.chip
  | .main => q.main

def PerPump.set {α : Type} (q : PerPump α) (p : Pump) (v : α) : PerPump α :=
  match p with
  | .chip => { q with chip := v }
  | .main => { q with main := v }

def PerPump.map {α β : Type} (f : α → β) (q : PerPump α) : PerPump β := ⟨f q.chip, f q.main⟩

def PerHood.get {α : Type} (q : PerHood α) : Hood → α
  | .flux => q.flux
  | .preheat => q.preheat
  | .wave => q.wave

def PerHood.set {α : Type} (q : PerHood α) (h : Hood) (v : α) : PerHood α :=
  match h with
  | .flux => { q with flux := v }
  | .preheat => { q with preheat := v }
  | .wave => { q with wave := v }

def PerHood.map {α β : Type} (f : α → β) (q : PerHood α) : PerHood β := ⟨f q.flux, f q.preheat, f q.wave⟩

def PerLine.get {α : Type} (q : PerLine α) : Line → α
  | .alm1 => q.alm1
  | .alm2 => q.alm2

def PerLine.set {α : Type} (q : PerLine α) (l : Line) (v : α) : PerLine α :=
  match l with
  | .alm1 => { q with alm1 := v }
  | .alm2 => { q with alm2 := v }

/-! ## One block of the state changed -/

def State.modCtr (f : Ctr → Ctr) (s : State) : State := { s with ctr := f s.ctr }
def State.modAdu (f : Adu → Adu) (s : State) : State := { s with adu := f s.adu }
def State.modRps (f : Rps → Rps) (s : State) : State := { s with rps := f s.rps }
def State.modFdu (f : Fdu → Fdu) (s : State) : State := { s with fdu := f s.fdu }
def State.modHcu (f : Hcu → Hcu) (s : State) : State := { s with hcu := f s.hcu }
def State.modWpu (f : Wpu → Wpu) (s : State) : State := { s with wpu := f s.wpu }
def State.modLvu (f : Lvu → Lvu) (s : State) : State := { s with lvu := f s.lvu }
def State.modExm (f : Exm → Exm) (s : State) : State := { s with exm := f s.exm }
def State.modPsc (f : Psc → Psc) (s : State) : State := { s with psc := f s.psc }
def State.modAou (f : Aou → Aou) (s : State) : State := { s with aou := f s.aou }
def State.modOq (f : Oq → Oq) (s : State) : State := { s with oq := f s.oq }
def State.modInl (f : Inl → Inl) (s : State) : State := { s with inl := f s.inl }
def State.modScp (f : Scp → Scp) (s : State) : State := { s with scp := f s.scp }
def State.modParams (f : Params → Params) (s : State) : State := { s with params := f s.params }
def State.modPins (f : InputPins → InputPins) (s : State) : State := { s with pins := f s.pins }

/-- Channel `c`'s state changed by `f`. -/
def State.modCh (c : Channel) (f : Heater → Heater) (s : State) : State :=
  s.modHcu fun u => { u with ch := u.ch.set c (f (u.ch.get c)) }

/-- Pump `p`'s state changed by `f`. -/
def State.modPump (p : Pump) (f : PumpState → PumpState) (s : State) : State :=
  s.modWpu fun u => { u with pumps := u.pumps.set p (f (u.pumps.get p)) }

/-- Hood `h`'s state changed by `f`. -/
def State.modHood (h : Hood) (f : HoodState → HoodState) (s : State) : State :=
  s.modExm fun u => { u with hoods := u.hoods.set h (f (u.hoods.get h)) }

/-- Port `p`'s state changed by `f`. -/
def State.modPort (p : Port) (f : PortState → PortState) (s : State) : State :=
  s.modScp fun u => { u with ports := u.ports.set p (f (u.ports.get p)) }

/-- Lane `l`'s dosing state changed by `f`. -/
def State.modLane (l : Fin 8) (f : Lane → Lane) (s : State) : State :=
  s.modFdu fun u => { u with lanes := u.lanes.set l (f (u.lanes[l])) }

/-- The lanes in increasing order. -/
def allLanes : List (Fin 8) := List.finRange 8

/-- The zones in the order of their numbers. -/
def allZones : List Zone := [.z1, .z2, .z3]

/-- The channels in the order of their numbers (R91). -/
def allChannels : List Channel := [.z1, .z2, .z3, .pot]

/-- The hoods in the order of their numbers (Section 8). -/
def allHoods : List Hood := [.flux, .preheat, .wave]

/-- The channel of a zone (R91). -/
def Zone.channel : Zone → Channel
  | .z1 => .z1
  | .z2 => .z2
  | .z3 => .z3

/-- The zone that a channel heats, if it is a zone channel (R91). -/
def channelZone : Channel → Option Zone
  | .z1 => some .z1
  | .z2 => some .z2
  | .z3 => some .z3
  | .pot => none

/-- The parameters of hood `h`. -/
def State.hoodParams (s : State) (h : Hood) : HoodParams := s.params.hoods.get h

/-! ## Arithmetic -/

/-- The difference of two quantities held modulo 2^32, read as a signed number (Units and Conventions). -/
def offset (x y : Word) : Int := (x - y).toInt

/-- `x` is past `y` modulo 2^32 (Units and Conventions). -/
def past (x y : Word) : Bool := decide (0 < offset x y)

/-- The milliseconds from `y` to `x`, modulo 2^32. -/
def elapsed (x y : Word) : Nat := (x - y).toNat

/-- A value clamped to [lo, hi] (Numbers and arithmetic). -/
def clampInt (lo hi v : Int) : Int := if v < lo then lo else if hi < v then hi else v

/-- A value clamped to [lo, hi] (Numbers and arithmetic). -/
def clampNat (lo hi v : Nat) : Nat := if v < lo then lo else if hi < v then hi else v

/-- An index of a store with `n` entries, if the number is one. -/
def indexOf (n v : Nat) : Option (Fin n) := if h : v < n then some ⟨v, h⟩ else none

/-- TIME_MS stands at a multiple of `n`. -/
def State.atMultiple (s : State) (n : Nat) : Bool := s.timeMs.toNat % n == 0

/-! ## The geometry of a board (R17) -/

/-- The head offset: HWM − entry position. -/
def State.head (s : State) (r : BoardRecord) : Int := offset s.ctr.hwm r.entryPos

/-- The tail offset: the head offset less the length, and 0 while the length is absent. -/
def State.tail (s : State) (r : BoardRecord) : Int :=
  match r.length with
  | some l => s.head r - (l : Int)
  | none => 0

/-- A record overlaps the span from `a` to `b`. -/
def State.overlaps (s : State) (r : BoardRecord) (a b : Int) : Bool := decide (a < s.head r) && decide (s.tail r < b)

/-- The start and end of a zone's span (R8). -/
def StationMap.zone (m : StationMap) : Zone → Nat × Nat
  | .z1 => (m.z1in, m.z1out)
  | .z2 => (m.z2in, m.z2out)
  | .z3 => (m.z3in, m.z3out)

/-- The start of the wave region (R8). -/
def StationMap.waveIn (m : StationMap) : Int := (m.pc : Int) - (m.g : Int)

/-- The end of the wave region (R8). -/
def StationMap.waveOut (m : StationMap) : Int := (m.pm : Int) + (m.g : Int)

def State.inZone (s : State) (r : BoardRecord) (z : Zone) : Bool :=
  s.overlaps r (s.ctr.map.zone z).1 (s.ctr.map.zone z).2

def State.inAnyZone (s : State) (r : BoardRecord) : Bool := allZones.any (s.inZone r)

def State.inWave (s : State) (r : BoardRecord) : Bool := s.overlaps r s.ctr.map.waveIn s.ctr.map.waveOut

/-- The excursion E = HWM − POS modulo 2^32 (R3). -/
def Ctr.excursion (c : Ctr) : Nat := (c.hwm - c.pos).toNat

/-! ## Reading the board table and the stores -/

/-- The record whose entry position is `k` (R11). -/
def State.record? (s : State) (k : Word) : Option BoardRecord := s.ctr.table.find? (fun r => r.entryPos == k)

/-- The youngest record of the table. -/
def State.youngest? (s : State) : Option BoardRecord := s.ctr.table.getLast?

/-- The oldest record in TRAVEL. -/
def State.oldestTravel? (s : State) : Option BoardRecord := s.ctr.table.find? (fun r => r.stage == .travel)

/-- The record in EXITING. -/
def State.exiting? (s : State) : Option BoardRecord := s.ctr.table.find? (fun r => r.stage == .exiting)

/-- The youngest record is in ENTERING. -/
def State.boardEntering (s : State) : Bool :=
  match s.youngest? with
  | some r => r.stage == .entering
  | none => false

/-- The contents of recipe `i` (R50). -/
def State.recipeAt (s : State) (i : Fin 32) : Option Recipe := s.rps.recipes[i]

/-- The contents of profile `i` (R47). -/
def State.profileAt (s : State) (i : Fin 8) : Option Profile := s.rps.profiles[i]

/-- The recipe that a record names (R12). -/
def State.recipeOf (s : State) (r : BoardRecord) : Option Recipe := r.recipe.bind s.recipeAt

/-- The active profile's contents (R54). -/
def State.activeProfile (s : State) : Option Profile := s.rps.active.bind s.profileAt

/-! ## Writing the board table -/

/-- The record named `k` changed by `f`. -/
def State.modRecord (k : Word) (f : BoardRecord → BoardRecord) (s : State) : State :=
  s.modCtr fun c => { c with table := c.table.map fun r => if r.entryPos == k then f r else r }

/-- Every record that meets `p` changed by `f`. -/
def State.modRecords (p : BoardRecord → Bool) (f : BoardRecord → BoardRecord) (s : State) : State :=
  s.modCtr fun c => { c with table := c.table.map fun r => if p r then f r else r }

/-- The flags of a record changed by `f`. -/
def BoardRecord.flag (f : BoardFlags → BoardFlags) (r : BoardRecord) : BoardRecord := { r with flags := f r.flags }

def BoardFlags.setUnsure (f : BoardFlags) : BoardFlags := { f with positionUnsure := true }
def BoardFlags.setFlux (f : BoardFlags) : BoardFlags := { f with fluxDeviation := true }
def BoardFlags.setPreheat (f : BoardFlags) : BoardFlags := { f with preheatDeviation := true }
def BoardFlags.setWave (f : BoardFlags) : BoardFlags := { f with waveDeviation := true }

/-- POSITION_UNSURE on every record in the table (R3, R4, R14). -/
def State.allUnsure (s : State) : State := s.modRecords (fun _ => true) (BoardRecord.flag BoardFlags.setUnsure)

/-! ## Reference counts (R53) -/

/-- An increment request for recipe `i`. -/
def State.incRef (i : Fin 32) (s : State) : State :=
  s.modRps fun u => { u with refs := u.refs.set i (u.refs[i] + 1) }

/-- A decrement request for recipe `i`. -/
def State.decRef (i : Fin 32) (s : State) : State :=
  s.modRps fun u => { u with refs := u.refs.set i (u.refs[i] - 1) }

/-- The release of a record's reference, where it names a recipe. -/
def State.releaseRef (r : BoardRecord) (s : State) : State :=
  match r.recipe with
  | some i => s.decRef i
  | none => s

/-! ## Port events (R202) -/

/-- The event kinds (Table 11.4). -/
inductive EventKind
  | state | admitLine | holdreq | exit | alarm | incident
  deriving DecidableEq, Repr

/-- The bit of an event kind in an event set (Table 11.4). -/
def EventKind.bit : EventKind → BitVec 6
  | .state => 0x01#6
  | .admitLine => 0x02#6
  | .holdreq => 0x04#6
  | .exit => 0x08#6
  | .alarm => 0x10#6
  | .incident => 0x20#6

/-- The kind joins the event set of every port, whatever the mask (R202). -/
def State.addEvent (e : EventKind) (s : State) : State :=
  s.modScp fun u => { u with ports := u.ports.map fun p => { p with events := p.events ||| e.bit } }

/-! ## Incidents (R193) -/

/-- A 32-bit incident value. -/
def valueOf (v : Int) : Option Word := some (BitVec.ofInt 32 v)

/-- One more incident: numbered, timed and appended, the oldest dropped at 32, and an INCIDENT event on each port. -/
def State.addIncident (code : IncidentCode) (subject : Option Subject) (tag value : Option Word) (s : State) : State :=
  (s.modInl fun u =>
    let n := u.counter + 1
    let kept := if u.incidents.length < Config.incidentMax then u.incidents else u.incidents.drop 1
    { u with counter := n, incidents := kept ++ [⟨n, s.timeMs, code, subject, tag, value⟩] }).addEvent .incident

/-! ## New latches (R185, R188) -/

/-- The alarm classes, in the bit order of a class set (Table 11.5, identifier 38). -/
inductive AlarmClass
  | extraction | level | heater | flux | wave | track | trip
  deriving DecidableEq, Repr

/-- The bit of a class in a class set. -/
def AlarmClass.bit : AlarmClass → BitVec 7
  | .extraction => 0x01#7
  | .level => 0x02#7
  | .heater => 0x04#7
  | .flux => 0x08#7
  | .wave => 0x10#7
  | .track => 0x20#7
  | .trip => 0x40#7

/-- A class set holds a class. -/
def holdsClass (set : BitVec 7) (c : AlarmClass) : Bool := (set &&& c.bit) != 0#7

/-- Each line whose class set holds the class becomes AUDIBLE (R188). -/
def State.endSilence (c : AlarmClass) (s : State) : State :=
  s.modAou fun u =>
    { u with lines :=
      ⟨if holdsClass s.params.lines.alm1.classes c then { u.lines.alm1 with silenced := false } else u.lines.alm1,
       if holdsClass s.params.lines.alm2.classes c then { u.lines.alm2 with silenced := false } else u.lines.alm2⟩ }

/-- A new latch in class `c`: an ALARM event on each port, and the silence of the class's lines ends (R185). -/
def State.newLatch (c : AlarmClass) (s : State) : State := (s.addEvent .alarm).endSilence c

/-- TRACK_ALERT latches; latching it while it is set leaves it set (R13, R185). -/
def State.latchTrack (s : State) : State :=
  if s.ctr.trackAlert then s else (s.modCtr fun c => { c with trackAlert := true }).newLatch .track

/-! ## The outcome of a meaning -/

/-- What a meaning answers. -/
abbrev Result := Host.Outcome State Fault Refusal

/-- An event that is not due takes no place: the state stands. -/
def whenDue (due : Bool) (f : State → State) (s : State) : Result := .next (if due then f s else s)

end Sys2Proof.Machine
end

