-- ==== Sys2Proof/Machine/Flags.lean ====
section
/-! DEFINITION. Every flag, condition and line that the manual computes from the state: the process-state lines, the
readiness of wave and settle, hood loss and extraction, the flux inhibit, the conditions by class, the gates of START and
ADMIT, the verdict, the alarm lines and ATTN. -/

namespace Sys2Proof.Machine

/-! ## The process state (R170, R171) -/

/-- HEAT_EN is asserted exactly in WARMING, READY, RUN, DRAIN and HOLD (R171). -/
def ProcState.heatEn : ProcState → Bool
  | .standby => false
  | .trip _ => false
  | .warming => true
  | .ready => true
  | .run => true
  | .drain => true
  | .hold _ _ => true

/-- HOLDREQ is asserted in HOLD and TRIP (R171). -/
def ProcState.holdReq : ProcState → Bool
  | .hold _ _ => true
  | .trip _ => true
  | .standby => false
  | .warming => false
  | .ready => false
  | .run => false
  | .drain => false

/-- WARMING, READY, RUN, DRAIN and HOLD are the supervised states (R153). -/
def ProcState.supervised (p : ProcState) : Bool := p.heatEn

/-- The process state is TRIP. -/
def ProcState.isTrip : ProcState → Bool
  | .trip _ => true
  | _ => false

/-- The process state is HOLD, in either substate. -/
def ProcState.isHold : ProcState → Bool
  | .hold _ _ => true
  | _ => false

/-- The process state is RUN or DRAIN (R6, R7). -/
def ProcState.runOrDrain : ProcState → Bool
  | .run => true
  | .drain => true
  | _ => false

/-- Flux windows open in RUN, DRAIN and HOLD (R84). -/
def ProcState.sprays (p : ProcState) : Bool := p.runOrDrain || p.isHold

/-- FLUX_P is checked, and a measurement may start, in READY, RUN, DRAIN and HOLD (R77, R141). -/
def ProcState.checksFlux (p : ProcState) : Bool := p == .ready || p.sprays

/-- The pumps are counted for the settle in READY, RUN, DRAIN and HOLD (Table 3.6). -/
def ProcState.countsPumps (p : ProcState) : Bool := p.checksFlux

def State.heatEn (s : State) : Bool := s.psc.state.heatEn

/-! ## Mains sync (R98) -/

/-- Milliseconds since the last half-cycle. -/
def State.sinceHalf (s : State) : Nat := elapsed s.timeMs s.hcu.lastHalf

/-- Mains sync is present while the last half-cycle was less than 25 ms ago. -/
def State.mainsPresent (s : State) : Bool := decide (s.sinceHalf < Config.mainsLimit)

/-! ## Heater channels -/

/-- A channel's setpoint in a profile (R91). -/
def Profile.setpoint (p : Profile) : Channel → Nat
  | .z1 => p.z1
  | .z2 => p.z2
  | .z3 => p.z3
  | .pot => p.pot

/-- A channel's overtemperature limit (R106). -/
def State.overtempLimit (s : State) (c : Channel) : Int :=
  match s.activeProfile with
  | some p =>
    if s.heatEn then min ((p.setpoint c : Int) + ((s.hcu.ch.get c).margin : Int)) Config.overtempCeiling
    else Config.overtempCeiling
  | none => Config.overtempCeiling

/-- A channel is above its overtemperature limit: its latest sample is valid and greater than the limit (R106). -/
def State.aboveLimit (s : State) (c : Channel) : Bool :=
  match (s.hcu.ch.get c).sample with
  | .valid t => decide (s.overtempLimit c < t)
  | _ => false

/-- OVERTEMP's condition persists: the latest sample is invalid or greater than the limit (R106). -/
def State.overtempPersists (s : State) (c : Channel) : Bool :=
  match (s.hcu.ch.get c).sample with
  | .valid t => decide (s.overtempLimit c < t)
  | _ => true

/-- The control computation is allowed on a channel (R94). -/
def State.controls (s : State) (c : Channel) : Bool :=
  s.heatEn && s.activeProfile.isSome && !(s.hcu.ch.get c).tcOpen && !(s.hcu.ch.get c).overtemp && !s.hcu.mainsSync

/-- A channel takes part in arbitration (R99). -/
def State.fires (s : State) (c : Channel) : Bool :=
  s.heatEn && !s.hcu.mainsSync && !(s.hcu.ch.get c).tcOpen && !(s.hcu.ch.get c).overtemp

/-- A temperature lies from SP − band to SP + band inclusive (R58, R109). -/
def inBand (sp band : Nat) (t : Int) : Bool :=
  decide ((sp : Int) - (band : Int) ≤ t) && decide (t ≤ (sp : Int) + (band : Int))

/-- A channel meets settle condition 1 (R58). -/
def State.channelSettled (s : State) (p : Profile) (c : Channel) : Bool :=
  match (s.hcu.ch.get c).sample with
  | .valid t => inBand (p.setpoint c) p.band t
  | _ => false

/-! ## Pumps (R120, R130) -/

/-- A pump's speed in a profile (Table 3.1). -/
def Profile.speed (p : Profile) : Pump → Nat
  | .chip => p.chip
  | .main => p.main

/-- A pump's profile speed, 0 while no profile is active (R118). -/
def State.pumpSpeed (s : State) (p : Pump) : Nat :=
  match s.activeProfile with
  | some q => q.speed p
  | none => 0

/-- A pump whose profile speed is above 0 is RUNNING. -/
def State.pumpReady (s : State) (p : Pump) : Bool :=
  s.pumpSpeed p == 0 || (s.wpu.pumps.get p).stage == .running

/-- The wave is ready (R130). -/
def State.waveReady (s : State) : Bool := s.activeProfile.isSome && s.pumpReady .chip && s.pumpReady .main

/-- A pump is RUNNING or OFF. -/
def PumpState.steady (u : PumpState) : Bool := u.stage == .running || u.stage == .off

/-- The pumps are steady (R130). -/
def State.pumpsSteady (s : State) : Bool := s.wpu.pumps.chip.steady && s.wpu.pumps.main.steady

/-- A pump may be started (R120). -/
def State.mayStart (s : State) (p : Pump) : Bool :=
  s.wpu.orderUp && s.wpu.molten && (s.wpu.pumps.get p).stage == .off && !(s.wpu.pumps.get p).fault &&
    decide (0 < s.pumpSpeed p) && s.heatEn

/-- A pump is reported as deferred (R118). -/
def State.deferred (s : State) (p : Pump) : Bool :=
  s.wpu.orderUp && decide (0 < s.pumpSpeed p) &&
    ((s.wpu.pumps.get p).stage == .off || (s.wpu.pumps.get p).stage == .cooldown)

/-- PUMP_FAULT is latched on either pump. -/
def State.anyPumpFault (s : State) : Bool := s.wpu.pumps.chip.fault || s.wpu.pumps.main.fault

/-! ## The settle conditions (R58) -/

/-- All settle conditions hold. -/
def State.settleOk (s : State) : Bool :=
  match s.activeProfile with
  | some p => allChannels.all (s.channelSettled p) &&
      (!s.psc.state.countsPumps || (s.pumpReady .chip && s.pumpReady .main))
  | none => false

/-! ## Extraction (R159, R162, R163) -/

/-- FLOW_LOSS or FAN_STOP is latched on the hood. -/
def HoodState.lost (u : HoodState) : Bool := u.flowLoss || u.fanStop

def State.hoodLost (s : State) (h : Hood) : Bool := (s.exm.hoods.get h).lost

/-- Extraction is lost while any hood is lost (R159). -/
def State.extractionLost (s : State) : Bool := allHoods.any s.hoodLost

/-- Extraction is proven while all three hoods are proven (R162). -/
def State.extractionProven (s : State) : Bool := allHoods.all fun h => (s.exm.hoods.get h).proven

/-- A hood is lost with the given policy. -/
def State.lostWith (s : State) (h : Hood) (p : Policy) : Bool := s.hoodLost h && (s.hoodParams h).policy == p

/-- The EXM's inhibit request to the FDU (R163). -/
def State.inhibitRequest (s : State) : Bool := allHoods.any fun h => s.lostWith h .inhibitFlux

/-- A hood reports the drain-class condition (Table 8.3). -/
def State.hoodDrains (s : State) (h : Hood) : Bool := s.lostWith h .drain || s.lostWith h .drainThenTrip

/-! ## The flux inhibit (R82) -/

/-- The inhibit mode that the causes call for; `none` is released (Table 4.7). -/
def State.inhibitCause (s : State) : Option InhibitMode :=
  if s.fdu.fluxPressure then some .cut
  else if s.inhibitRequest then some s.params.fluxPolicy
  else none

/-! ## Conditions reported by class (R172, Table 9.2) -/

/-- The conditions that stand reported, in the row order of each class. STOP, HOLD, TRIP and the raised conditions never
stand; ESTOP_N stands while it is taken active (DEDUCED, notes/assumptions/20.md). -/
structure Conditions where
  hoodDrain : Bool
  levelCritical : Bool
  probeFault : Bool
  zoneTcOpen : Bool
  pumpFault : Bool
  estop : Bool
  overtemp : Bool
  potTcOpen : Bool
  mainsSync : Bool
  escalated : Bool
  hoodTrip : Bool
  deriving DecidableEq, Repr

def State.conditions (s : State) : Conditions where
  hoodDrain := allHoods.any s.hoodDrains
  levelCritical := s.lvu.critical
  probeFault := s.lvu.probeFault
  zoneTcOpen := s.hcu.ch.z1.tcOpen || s.hcu.ch.z2.tcOpen || s.hcu.ch.z3.tcOpen
  pumpFault := s.anyPumpFault
  estop := s.psc.estop
  overtemp := allChannels.any fun c => (s.hcu.ch.get c).overtemp
  potTcOpen := s.hcu.ch.pot.tcOpen
  mainsSync := s.hcu.mainsSync
  escalated := allHoods.any fun h => (s.exm.hoods.get h).escalated
  hoodTrip := allHoods.any fun h => s.lostWith h .trip

/-- A drain-class condition is reported. -/
def Conditions.drain (c : Conditions) : Bool := c.hoodDrain || c.levelCritical || c.probeFault || c.zoneTcOpen

/-- A trip-class condition is reported. -/
def Conditions.trip (c : Conditions) : Bool :=
  c.estop || c.overtemp || c.potTcOpen || c.mainsSync || c.escalated || c.hoodTrip

/-! ## The gates of WARM and START (R174, Table 9.4) -/

/-- TC_OPEN or OVERTEMP is latched on a channel, or MAINS_SYNC is latched. -/
def State.heaterFault (s : State) : Bool :=
  s.hcu.mainsSync || allChannels.any fun c => (s.hcu.ch.get c).tcOpen || (s.hcu.ch.get c).overtemp

/-- The items of the gate of START, in order; true where the item holds. -/
def State.startGate (s : State) : List Bool :=
  [s.ctr.mapValid, s.rps.settle == .settled, s.waveReady, !s.conditions.drain, !s.extractionLost, !s.anyPumpFault]

/-! ## Admission (R33 to R35) -/

/-- The next recipe: the front ticket's, otherwise the default (R33). -/
def State.nextRecipe (s : State) : Option (Fin 32) :=
  match s.adu.queue with
  | t :: _ => some t.recipe
  | [] => s.adu.default

/-- The next profile: the one named in the next recipe's record (R33). -/
def State.nextProfile (s : State) : Option (Fin 8) := (s.nextRecipe.bind s.recipeAt).map Recipe.profile

/-- The next recipe's contents. -/
def State.nextContents (s : State) : Option Recipe := s.nextRecipe.bind s.recipeAt

/-- There is space for one more record (R10). -/
def State.hasSpace (s : State) : Bool :=
  decide (s.ctr.table.length < Config.tableMax) &&
    decide (s.ctr.table.length + s.oq.outcomes.length < Config.boardsMax)

/-- Condition 8: the pitch is met (R35). -/
def State.pitchMet (s : State) : Bool :=
  match s.youngest? with
  | none => true
  | some r =>
    match r.stage, r.length, s.nextContents with
    | .entering, _, _ => false
    | _, some l, some c => decide ((c.minGap : Int) ≤ s.head r - (l : Int))
    | _, _, _ => false

/-- A hood closes admission for the next recipe (R35, Table 8.3). With no next recipe a lost INHIBIT_FLUX hood closes nothing
(DESIGN CHOICE, notes/assumptions/55.md). -/
def State.hoodCloses (s : State) (h : Hood) : Bool :=
  s.hoodLost h &&
    match (s.hoodParams h).policy with
    | .warnOnly => false
    | .inhibitFlux => match s.nextContents with
      | some c => decide (0 < c.density)
      | none => false
    | .drain => true
    | .drainThenTrip => true
    | .trip => true

/-- Condition 4: there is an active profile, the settle status is SETTLED, and the next profile equals the active one. With no
next recipe there is no profile to differ, and the condition does not fail for it (Table 2.6, row Start). -/
def State.profileAgrees (s : State) : Bool :=
  s.rps.active.isSome && (s.nextRecipe.isNone || s.nextProfile == s.rps.active) && s.rps.settle == .settled

/-- Condition 6: the flux inhibit is not asserted, or the next recipe's flux density is 0. With no next recipe there is no
density of 0 (DESIGN CHOICE, notes/assumptions/55.md). -/
def State.fluxAllows (s : State) : Bool :=
  s.fdu.inhibit.isNone || match s.nextContents with
    | some c => c.density == 0
    | none => false

/-- The nine conditions of Table 2.3, in order; true where the condition holds. -/
def State.admitConditions (s : State) : List Bool :=
  [s.psc.state == .run,
   s.hasSpace,
   s.nextRecipe.isSome,
   s.profileAgrees,
   !s.lvu.gap,
   s.fluxAllows,
   s.waveReady,
   s.pitchMet,
   !allHoods.any s.hoodCloses]

/-- ADMIT is called for (R34). -/
def State.admitHolds (s : State) : Bool := s.admitConditions.all id

/-- One place is reserved for the ticket of the record in ENTERING (R28). -/
def State.placeReserved (s : State) : Bool :=
  match s.youngest? with
  | some r => r.stage == .entering && r.origin == some .ticket
  | none => false

/-- The places free in the ticket queue (R28). -/
def State.placesFree (s : State) : Nat :=
  Config.ticketMax - s.adu.queue.length - (if s.placeReserved then 1 else 0)

/-- A tag is carried by a ticket in the queue or by a record in the table (R28). -/
def State.tagHeld (s : State) (t : Word) : Bool :=
  s.adu.queue.any (fun k => k.tag == some t) || s.ctr.table.any (fun r => r.tag == some t)

/-! ## The verdict (R189) -/

/-- The verdict of a record (Table 10.5); `lost` says that it was removed as a lost board. -/
def verdictOf (lost : Bool) (f : BoardFlags) : Verdict :=
  if lost then .lost
  else if f.unscheduled || f.positionUnsure || f.tripped || f.waveInterrupted || f.parked || f.profileMismatch then
    .reject
  else if f.fluxDeviation || f.preheatDeviation || f.toptempDeviation || f.waveDeviation || f.speedDeviation then
    .deviated
  else .pass

/-! ## The alarm lines (R186) -/

/-- At least one flag of the class is latched; for TRIP, the process state is TRIP (Table 10.1). -/
def State.classActive (s : State) : AlarmClass → Bool
  | .extraction => allHoods.any fun h =>
      (s.exm.hoods.get h).flowWarn || (s.exm.hoods.get h).lost || (s.exm.hoods.get h).escalated
  | .level => s.lvu.high || s.lvu.low || s.lvu.critical || s.lvu.probeFault || s.lvu.feedBudget || s.lvu.wireOut
  | .heater => s.heaterFault
  | .flux => s.fdu.fluxPressure || s.fdu.reservoirLow
  | .wave => s.anyPumpFault
  | .track => s.ctr.trackAlert
  | .trip => s.psc.state.isTrip

def allClasses : List AlarmClass := [.extraction, .level, .heater, .flux, .wave, .track, .trip]

/-- The active classes as a set. -/
def State.activeClasses (s : State) : BitVec 7 :=
  allClasses.foldl (fun acc c => if s.classActive c then acc ||| c.bit else acc) 0#7

/-- The classes that make a line active (R186). -/
def State.lineClasses (s : State) (l : Line) : BitVec 7 := (s.params.lines.get l).classes &&& s.activeClasses

/-- A line is active (R186). -/
def State.lineActive (s : State) (l : Line) : Bool := s.lineClasses l != 0#7

/-- A mode is in its on phase at a TIME_MS (R186). -/
def LineMode.onPhase (m : LineMode) (time : Word) : Bool :=
  match m with
  | .steady => true
  | .blink1Hz => decide (time.toNat % 1000 < 500)
  | .blink2Hz => decide (time.toNat % 500 < 250)

/-- A line's output conducts: active, AUDIBLE and in the on phase of its mode (R186). -/
def State.lineConducts (s : State) (l : Line) : Bool :=
  s.lineActive l && !(s.aou.lines.get l).silenced && (s.params.lines.get l).mode.onPhase s.timeMs

/-! ## Attention lines (R202) and the other lines that follow the state -/

/-- ATTN of a port is asserted while its event set and mask have a kind in common (R202). -/
def PortState.attn (p : PortState) : Bool := (p.events &&& p.mask) != 0#6

/-- The valve of a lane is open: its generator is in ON (R66). -/
def Lane.valveOpen (l : Lane) : Bool :=
  match l.gen with
  | .on _ _ => true
  | _ => false

end Sys2Proof.Machine
end

