-- ==== Sys2Proof/Machine/Operands.lean ====
section
/-! DEFINITION. Operand forms: the analogue inputs in engineering units, the fields of a request payload, the values of an
answer in bytes (R205), the frame check (R196) and the status codes (Table 11.1). -/

namespace Sys2Proof.Machine

/-! ## Analogue inputs -/

/-- A 4 to 20 mA signal, in microamperes, is valid from 3.5 mA to 21.0 mA inclusive (R77, R111, R153). -/
def currentValid (i : Nat) : Bool := decide (3500 ≤ i) && decide (i ≤ 21000)

/-- (I − 4.0 mA) × span / 16 mA, truncated and clamped to [0, span] (R77, R111, R153). -/
def currentValue (span i : Nat) : Nat :=
  (clampInt 0 span ((((i : Int) - 4000) * (span : Int)).tdiv 16000)).toNat

/-- One sample of a current input with the given span. -/
def currentSample (span i : Nat) : Sample Nat :=
  if currentValid i then .valid (currentValue span i) else .invalid

/-- A sample that is valid. -/
def Sample.isValid {α : Type} : Sample α → Bool
  | .valid _ => true
  | _ => false

/-- One sample of the pyrometer input (R111). -/
def pyroSample (i : Nat) : Sample Int :=
  if currentValid i then .valid ((currentValue 3000 i : Nat) : Int) else .invalid

/-- A thermocouple conversion: valid when the circuit is closed and the temperature lies from −500 to +5000 (R92). -/
def conversion (conv : Option Int) : Sample Int :=
  match conv with
  | some t => if decide (-500 ≤ t) && decide (t ≤ 5000) then .valid t else .invalid
  | none => .invalid

/-! ## Fields of a request, high byte first (R205) -/

def byteAt (pl : List Byte) (i : Nat) : Nat := (pl.getD i 0).toNat

/-- An unsigned field of two bytes. -/
def wordAt (pl : List Byte) (i : Nat) : Nat := byteAt pl i * 256 + byteAt pl (i + 1)

/-- An unsigned field of four bytes. -/
def longAt (pl : List Byte) (i : Nat) : Nat := wordAt pl i * 65536 + wordAt pl (i + 2)

/-- A signed field of four bytes in two's complement. -/
def signedLongAt (pl : List Byte) (i : Nat) : Int := (BitVec.ofNat 32 (longAt pl i)).toInt

/-! ## Values of an answer, high byte first (R205) -/

def put1 (v : Nat) : List Byte := [BitVec.ofNat 8 v]
def put2 (v : Nat) : List Byte := [BitVec.ofNat 8 (v / 256), BitVec.ofNat 8 v]
def put4 (v : Nat) : List Byte :=
  [BitVec.ofNat 8 (v / 16777216), BitVec.ofNat 8 (v / 65536), BitVec.ofNat 8 (v / 256), BitVec.ofNat 8 v]

/-- A signed value of two bytes. -/
def putS2 (v : Int) : List Byte := put2 (BitVec.ofInt 16 v).toNat

/-- A signed value of four bytes. -/
def putS4 (v : Int) : List Byte := put4 (BitVec.ofInt 32 v).toNat

def putWord (w : Word) : List Byte := put4 w.toNat

/-- An item of two values: 0 for the first named in R205, 1 for the second. -/
def putBool (b : Bool) : List Byte := put1 (if b then 1 else 0)

/-- An optional value: a presence byte, then the value, sent as 0 when absent. -/
def putOpt {α : Type} (put : α → List Byte) (zero : α) (v : Option α) : List Byte :=
  match v with
  | some x => putBool true ++ put x
  | none => putBool false ++ put zero

/-- Bits from a list of members, the first in bit 0. -/
def bitsOf : List Bool → Nat
  | [] => 0
  | b :: bs => (if b then 1 else 0) + 2 * bitsOf bs

/-! ## The frame check (R196) -/

/-- One bit shifted into the CRC register, polynomial H'1021. -/
def crcBit (reg : BitVec 16) : BitVec 16 :=
  if reg.msb then (reg <<< 1) ^^^ 0x1021#16 else reg <<< 1

/-- One byte shifted into the CRC register, most significant bit first. -/
def crcByte (reg : BitVec 16) (b : Byte) : BitVec 16 :=
  crcBit (crcBit (crcBit (crcBit (crcBit (crcBit (crcBit (crcBit (reg ^^^ ((b.zeroExtend 16) <<< 8)))))))))

/-- The CRC of a list of bytes; the register starts at H'FFFF. -/
def crc (bs : List Byte) : BitVec 16 := bs.foldl crcByte 0xFFFF#16

/-- The two CRC bytes, high byte first. -/
def crcBytes (bs : List Byte) : List Byte := put2 (crc bs).toNat

/-! ## Status codes (Table 11.1) -/

inductive Status
  | ok | clamped | denied | state | range | full | empty | inUse | duplicate | noRecipe | noProfile | notReady
  | extraction | pending | unknown | length
  deriving DecidableEq, Repr

def Status.code : Status → Byte
  | .ok => 0x00#8
  | .clamped => 0x01#8
  | .denied => 0x02#8
  | .state => 0x03#8
  | .range => 0x04#8
  | .full => 0x05#8
  | .empty => 0x06#8
  | .inUse => 0x07#8
  | .duplicate => 0x08#8
  | .noRecipe => 0x09#8
  | .noProfile => 0x0A#8
  | .notReady => 0x0B#8
  | .extraction => 0x0C#8
  | .pending => 0x0D#8
  | .unknown => 0x0E#8
  | .length => 0x0F#8

/-- A command's answer: its status and its answer payload. -/
structure Reply where
  status : Status
  payload : List Byte
  deriving DecidableEq, Repr

/-- A refusal: a status with no payload (R198). -/
def refuse (st : Status) : Reply := ⟨st, []⟩

/-- OK with no payload (R200). -/
def okReply : Reply := ⟨.ok, []⟩

/-- OK with an answer. -/
def answer (payload : List Byte) : Reply := ⟨.ok, payload⟩

/-- CLAMPED where a value was clamped, OK otherwise. -/
def clampReply (clamped : Bool) (payload : List Byte) : Reply := ⟨if clamped then .clamped else .ok, payload⟩

/-- What a command's body answers: the reply and the state after it. -/
abbrev Taken := Reply × State

/-- A refusal of the command's own rule, which changes nothing (R198). -/
def refused (st : Status) (s : State) : Taken := (refuse st, s)

/-- A profile index of one byte. -/
def profileIndex (pl : List Byte) (i : Nat) : Option (Fin 8) := indexOf 8 (byteAt pl i)

/-- A recipe index of one byte. -/
def recipeIndex (pl : List Byte) (i : Nat) : Option (Fin 32) := indexOf 32 (byteAt pl i)

/-- The response frame of a reply (Table 11.7). -/
def responseFrame (cmd : Byte) (r : Reply) : List Byte :=
  let body := put1 r.payload.length ++ [cmd, r.status.code] ++ r.payload
  0x5A#8 :: (body ++ crcBytes body)

end Sys2Proof.Machine
end

