-- ==== Sys2Proof/Machine/Flux.lean ====
section
/-! DEFINITION. The Flux Dosing Unit (Section 4): pulses, windows, the dose arithmetic, shortfalls, CUT, departures and
the flux inhibit. -/

namespace Sys2Proof.Machine

/-! ## Quantities (R71) -/

/-- V, the flux due per advance in pl, for a recipe. -/
def Recipe.fluxPerAdvance (c : Recipe) : Nat := c.density * 50

/-- Q, the flux of one pulse in pl. -/
def Nozzle.pulse (n : Nozzle) : Nat := n.quantum * 1000

/-- The density's V of a record; 0 for a record without a recipe. -/
def State.fluxDue (s : State) (r : BoardRecord) : Nat :=
  match s.recipeOf r with
  | some c => c.fluxPerAdvance
  | none => 0

/-- A count of a lane dose entry raised, saturating (R67, R70). -/
def doseAdd (a b : Nat) : Nat := min (a + b) Config.doseMax

/-- The quotient of (Q/2 + V × n) by Q, the pulses made over n sprayed advances (R72, R73). -/
def pulsesOver (q v n : Nat) : Nat := (q / 2 + v * n) / q

/-- The entry of lane `l` changed by `f`. -/
def BoardRecord.modDose (l : Fin 8) (f : LaneDose → LaneDose) (r : BoardRecord) : BoardRecord :=
  { r with doses := r.doses.map fun d => if d.lane == l then f d else d }

/-- A record is made PARTIAL with FLUX_DEVIATION. -/
def BoardRecord.partialFlux (r : BoardRecord) : BoardRecord := ({ r with flux := .partly }).flag BoardFlags.setFlux

/-- A record is made SKIPPED with FLUX_DEVIATION. -/
def BoardRecord.skipFlux (r : BoardRecord) : BoardRecord := ({ r with flux := .skipped }).flag BoardFlags.setFlux

/-- A shortfall of `n` pulses on lane `l`: the entry grows, FLUX_DEVIATION is set, and DONE becomes PARTIAL (R70, R74). -/
def BoardRecord.addShortfall (l : Fin 8) (n : Nat) (r : BoardRecord) : BoardRecord :=
  let r' := (r.modDose l fun d => { d with shortfall := doseAdd d.shortfall n }).flag BoardFlags.setFlux
  if r'.flux == .done then { r' with flux := .partly } else r'

/-- A record changed where the name is present. -/
def State.modOwner (o : Option Word) (f : BoardRecord → BoardRecord) (s : State) : State :=
  match o with
  | some k => s.modRecord k f
  | none => s

/-- The owed pulses of lane `l` are discarded as the owner's shortfall (R70, R76, R85). -/
def State.discardOwed (l : Fin 8) (s : State) : State :=
  let u := s.fdu.lanes[l]
  if 0 < u.owed then
    (s.modOwner u.owner (BoardRecord.addShortfall l u.owed)).modLane l fun x => { x with owed := 0 }
  else s

/-! ## Reservoir (R80, R81) -/

/-- RESERVOIR_LOW latches when it is clear and the estimate is below the threshold (R81). -/
def State.checkReservoir (s : State) : State :=
  if !s.fdu.reservoirLow && decide (s.fdu.reservoir < s.params.reservoirLow * 1000) then
    ((s.modFdu fun u => { u with reservoirLow := true }).addIncident .reservoirLow none none
      (valueOf ((s.fdu.reservoir / 1000 : Nat) : Int))).newLatch .flux
  else s

/-! ## Pulses (R66, R67) -/

/-- A generator may start a pulse: IDLE with pulses owed, not in TRIP and not under CUT. -/
def State.mayPulse (s : State) (l : Fin 8) : Bool :=
  (s.fdu.lanes[l]).gen == .idle && decide (0 < (s.fdu.lanes[l]).owed) && !s.psc.state.isTrip &&
    s.fdu.inhibit != some .cut

/-- The start of a pulse on lane `l` where the generator may start one (R67). -/
def State.startPulse (l : Fin 8) (s : State) : State :=
  if s.mayPulse l then
    let n := s.fdu.nozzles[l]
    let credited := s.modOwner (s.fdu.lanes[l]).owner
      (BoardRecord.modDose l fun d => { d with delivered := doseAdd d.delivered 1 })
    let opened := credited.modLane l fun u => { u with owed := u.owed - 1, gen := .on n.onTime n.offTime }
    (opened.modFdu fun u => { u with reservoir := u.reservoir - n.quantum }).checkReservoir
  else s

/-- The pulse starts of an advance (R72, step 3). The rule gives no order of the lanes; the model takes them in increasing
order (DESIGN CHOICE, notes/assumptions/49.md). -/
def State.startPulses (s : State) : State := allLanes.foldl (fun s l => s.startPulse l) s

/-- The end of the on time: the valve closes and HOLDOFF begins (R66). -/
def Lane.endOn (u : Lane) : Lane :=
  match u.gen with
  | .on _ off => { u with gen := .holdoff off }
  | _ => u

/-! ## Accumulation (R72, step 1) -/

/-- One advance's accumulation on lane `l`. -/
def State.accumulate (l : Fin 8) (s : State) : State :=
  let u := s.fdu.lanes[l]
  if u.window then
    match u.owner.bind s.record? with
    | some r =>
      let q := (s.fdu.nozzles[l]).pulse
      let a := u.acc + s.fluxDue r
      let made := a / q
      let toOwed := min made (Config.owedMax - u.owed)
      let spill := made - toOwed
      let s' := s.modLane l fun x => { x with acc := a % q, owed := x.owed + toOwed }
      if 0 < spill then s'.modRecord r.entryPos (BoardRecord.addShortfall l spill) else s'
    | none => s
  else s

/-- Accumulation on every open lane, and one more sprayed advance for each ACTIVE record. -/
def State.accumulateAll (s : State) : State :=
  (allLanes.foldl (fun s l => s.accumulate l) s).modRecords (fun r => r.flux == .active)
    fun r => { r with sprayed := r.sprayed + 1 }

/-! ## Windows (R69 to R75) -/

/-- Lane `l` is handed over to the record `k`: pulses still owed to the previous owner are discarded as its shortfall, and
the record owns the lane with A at Q/2 (R70). -/
def State.takeLane (k : Word) (l : Fin 8) (s : State) : State :=
  let u := s.fdu.lanes[l]
  let handed :=
    if 0 < u.owed then
      (s.discardOwed l).addIncident .fluxHandover (some (.lane l))
        ((u.owner.bind s.record?).bind BoardRecord.tag) (valueOf (u.owed : Int))
    else s
  handed.modLane l fun x => { x with owner := some k, window := true, acc := (s.fdu.nozzles[l]).pulse / 2 }

/-- One lane of a record's list at the opening of its window: taken when its nozzle is enabled, otherwise FLUX_DEVIATION
on the record (R70). -/
def State.openLane (k : Word) (l : Fin 8) (s : State) : State :=
  if (s.fdu.nozzles[l]).enabled then s.takeLane k l else s.modRecord k (BoardRecord.flag BoardFlags.setFlux)

/-- The window of record `r` opens (R70). -/
def State.openWindow (r : BoardRecord) (s : State) : State :=
  ((r.doses.map LaneDose.lane).foldl (fun s l => s.openLane r.entryPos l) s).modRecord r.entryPos
    fun x => { x with flux := .active, sprayed := 0 }

/-- The margins leave nothing to spray (R69, R75). -/
def marginsVoid (c : Recipe) (r : BoardRecord) : Bool :=
  match r.length with
  | some l => decide (l ≤ c.leadIn + c.leadOut)
  | none => false

/-- The window start of record `k` (R69). -/
def State.fluxWindowStart (k : Word) (s : State) : State :=
  match s.record? k with
  | none => s
  | some r =>
    if r.flux != .pending then s
    else if !s.psc.state.sprays then s.modRecord k BoardRecord.skipFlux
    else if s.fdu.inhibit.isSome then s.modRecord k BoardRecord.skipFlux
    else match s.recipeOf r with
      | none => s
      | some c => if marginsVoid c r then s.modRecord k BoardRecord.skipFlux else s.openWindow r

/-- The shortfall of a dose entry over `n` sprayed advances at `v` pl each, where its nozzle is disabled (R73). -/
def State.settleDose (s : State) (v n : Nat) (d : LaneDose) : LaneDose :=
  if (s.fdu.nozzles[d.lane]).enabled then d
  else { d with shortfall := min (pulsesOver (s.fdu.nozzles[d.lane]).pulse v n) Config.doseMax }

/-- The shortfalls of a record's disabled lanes, set from its sprayed advances (R73, R85). -/
def State.settleDisabled (s : State) (r : BoardRecord) : BoardRecord :=
  { r with doses := r.doses.map (s.settleDose (s.fluxDue r) r.sprayed) }

/-- A lane of the record's list is disabled. -/
def State.anyDisabled (s : State) (r : BoardRecord) : Bool :=
  r.doses.any fun d => !(s.fdu.nozzles[d.lane]).enabled

/-- DONE when every shortfall is 0 and no lane is disabled, otherwise PARTIAL with FLUX_DEVIATION (R73). -/
def State.judgeWindow (s : State) (r : BoardRecord) : BoardRecord :=
  if r.doses.all (fun d => d.shortfall == 0) && !s.anyDisabled r then { r with flux := .done }
  else r.partialFlux

/-- A lane's window closes and its residual is discarded (R73). -/
def Lane.close (u : Lane) : Lane := { u with acc := 0, window := false }

/-- The open windows of the lanes owned by record `k` close (R73). -/
def State.closeLanes (k : Word) (s : State) : State :=
  s.modFdu fun u => { u with lanes := u.lanes.map fun x => if x.owner == some k && x.window then x.close else x }

/-- The window of an ACTIVE record closes at its end (R73). -/
def State.closeWindow (k : Word) (s : State) : State :=
  (s.closeLanes k).modRecord k fun r => s.judgeWindow (s.settleDisabled r)

/-- The window end of record `k`; `late` says that it is issued at the entry trailing edge (R73, R75). -/
def State.fluxWindowEnd (late : Bool) (k : Word) (s : State) : State :=
  match s.record? k with
  | none => s
  | some r =>
    match r.flux, s.recipeOf r with
    | .active, some c =>
      let closed := s.closeWindow k
      if late && marginsVoid c r then closed.modRecord k BoardRecord.skipFlux
      else if late && decide ((s.ctr.map.pf : Int) + ((r.length.getD 0 : Nat) : Int) - (c.leadOut : Int) < s.head r) then
        closed.modRecord k (BoardRecord.flag BoardFlags.setFlux)
      else closed
    | .active, none => s.closeWindow k
    | .pending, _ => s.modRecord k BoardRecord.skipFlux
    | _, _ => s

/-! ## Departure and debris (R76) -/

/-- Lane `l`, if record `k` owns it, gives its owed pulses to the record's shortfall and loses its owner. -/
def State.releaseLane (k : Word) (l : Fin 8) (s : State) : State :=
  if (s.fdu.lanes[l]).owner == some k then (s.discardOwed l).modLane l fun x => { x with owner := none } else s

/-- The FDU's settlement before record `k` leaves by completion or as a lost board. -/
def State.fluxDeparture (k : Word) (s : State) : State :=
  match s.record? k with
  | none => s
  | some r =>
    let settled := match r.flux with
      | .active => (s.closeWindow k).modRecord k BoardRecord.partialFlux
      | .pending => s.modRecord k BoardRecord.skipFlux
      | _ => s
    allLanes.foldl (fun s l => s.releaseLane k l) settled

/-- A lane closed, emptied and without an owner. -/
def Lane.clear (u : Lane) : Lane := { u with acc := 0, owed := 0, owner := none, window := false }

/-- The lanes of a debris record are closed and emptied, with nothing credited. -/
def State.fluxDebris (k : Word) (s : State) : State :=
  s.modFdu fun u => { u with lanes := u.lanes.map fun x => if x.owner == some k then x.clear else x }

/-! ## CUT (R85, R88) and the inhibit (R82, R83) -/

/-- A lane under CUT: a generator in ON goes to HOLDOFF and an open window closes with its accumulator discarded. -/
def Lane.cut (u : Lane) : Lane := if u.window then u.endOn.close else u.endOn

/-- Every lane under CUT. -/
def State.cutLanes (s : State) : State := s.modFdu fun u => { u with lanes := u.lanes.map Lane.cut }

/-- The action of CUT, without its incident (R85). -/
def State.cutAction (s : State) : State :=
  let discarded := allLanes.foldl (fun s l => s.discardOwed l) s.cutLanes
  discarded.modRecords (fun r => r.flux == .active) fun r => (s.settleDisabled r).partialFlux

/-- The records that the action of CUT makes PARTIAL: the ACTIVE ones, and the DONE ones that lose owed pulses (R85,
R74). -/
def State.cutCount (s : State) : Nat :=
  s.ctr.table.countP fun r => r.flux == .active ||
    (r.flux == .done && allLanes.any fun l =>
      (s.fdu.lanes[l]).owner == some r.entryPos && decide (0 < (s.fdu.lanes[l]).owed))

/-- An application of CUT with its incident (R85). -/
def State.applyCut (s : State) : State :=
  if 0 < s.cutCount || allLanes.any (fun l => decide (0 < (s.fdu.lanes[l]).owed)) then
    s.cutAction.addIncident .fluxCut none none (valueOf (s.cutCount : Int))
  else s.cutAction

/-- The inhibit follows its causes, and CUT is applied where the mode becomes CUT (R82, R83). -/
def State.followInhibit (s : State) : State :=
  let s' := s.modFdu fun u => { u with inhibit := s.inhibitCause }
  if s.inhibitCause == some .cut && s.fdu.inhibit != some .cut then s'.applyCut else s'

/-! ## The flux fields of a new record (R68) -/

/-- The lane dose list of a recipe: one entry for each lane of the mask, in increasing order. -/
def dosesOf (mask : BitVec 8) : List LaneDose :=
  (allLanes.filter fun l => mask.getLsbD l.val).map fun l => ⟨l, 0, 0⟩

/-- The flux status and lane dose list formed from the bound recipe, if any. -/
def fluxFields (c : Option Recipe) : FluxStatus × List LaneDose :=
  match c with
  | some c => if 0 < c.density then (.pending, dosesOf c.laneMask) else (.notRequired, [])
  | none => (.notRequired, [])

/-! ## Supply pressure (R77, R78) -/

/-- A sample is out of band: invalid, or below p_min or above p_max (R78). -/
def Params.outOfBand (p : Params) : Sample Nat → Bool
  | .valid v => decide (v < p.pMin) || decide (p.pMax < v)
  | _ => true

/-- FLUX_PRESSURE latches at 5 samples out of band, with its incident (R78). -/
def State.latchFluxPressure (s : State) : State :=
  if !s.fdu.fluxPressure && decide (Config.pressureCount ≤ s.fdu.qualify) then
    ((s.modFdu fun u => { u with fluxPressure := true }).addIncident .fluxPressure none none
      (match s.fdu.pressure with
        | .valid v => valueOf (v : Int)
        | _ => none)).newLatch .flux
  else s

end Sys2Proof.Machine
end

