-- ==== Sys2Proof/Machine/Heater.lean ====
section
/-! DEFINITION. The Heater Control Unit (Section 5): the control computation, burst firing, the heater faults and the
board exposure marks. -/

namespace Sys2Proof.Machine

/-! ## Channels set to zero (R94, R101, R102) -/

/-- Power, integral and firing accumulator 0 and the SSR output OFF. -/
def Heater.zero (u : Heater) : Heater := { u with integral := 0, power := 0, firing := 0, ssr := false }

/-- Every channel at zero: the release of HEAT_EN, or the latch of MAINS_SYNC. -/
def State.zeroHeaters (s : State) : State := s.modHcu fun u => { u with ch := u.ch.map Heater.zero }

/-! ## The control computation (R95, R96) -/

/-- The boost B of a channel (R96). -/
def State.boost (s : State) (p : Profile) (c : Channel) : Nat :=
  match channelZone c with
  | some z => if s.ctr.table.any (fun r => s.inZone r z) then p.boost else 0
  | none => 0

/-- Pmax′ of a channel: in HOLD a zone takes the lesser of Pmax and the hold limit (R95, step 6). A control computation is
at a sample, at which the parameters come into force (R93). -/
def State.powerLimit (s : State) (c : Channel) : Nat :=
  if (channelZone c).isSome && s.psc.state.isHold then min (s.params.gains.get c).pmax s.params.holdLimit
  else (s.params.gains.get c).pmax

/-- The new integral and power of a channel from the error, the boost and the limits (R95, steps 2 to 6). -/
def controlStep (g : Gains) (limit boost : Nat) (e integral : Int) : Int × Nat :=
  let trial := clampInt 0 Config.integralMax (integral + (g.ki : Int) * e)
  let u := ((g.kp : Int) * e).tdiv 16 + trial.tdiv 256 + (boost : Int)
  let held := (decide ((g.pmax : Int) < u) && decide (0 < e)) || (decide (u < 0) && decide (e < 0))
  (if held then integral else trial, (clampInt 0 limit u).toNat)

/-- The control computation at a valid sample `t` where R94 allows it. -/
def State.control (c : Channel) (t : Int) (s : State) : State :=
  match s.activeProfile with
  | some p =>
    if s.controls c then
      let e := clampInt (-1000) 1000 ((p.setpoint c : Int) - t)
      let out := controlStep (s.params.gains.get c) (s.powerLimit c) (s.boost p c) e (s.hcu.ch.get c).integral
      s.modCh c fun u => { u with integral := out.1, power := out.2 }
    else s
  | none => s

/-- At entry to HOLD a zone's power above the hold limit becomes the lesser of Pmax and the hold limit (R97), both as in
force since the channel's latest sample (R93). -/
def State.limitZone (c : Channel) (s : State) : State :=
  s.modCh c fun u => if u.holdLimit < u.power then { u with power := min u.pmax u.holdLimit } else u

def State.limitZones (s : State) : State := ((s.limitZone .z1).limitZone .z2).limitZone .z3

/-! ## Burst firing (R99 to R101) -/

/-- A channel that takes part wants to fire when F + P is at least 1000. -/
def State.wants (s : State) (c : Channel) : Bool :=
  s.fires c && decide (1000 ≤ (s.hcu.ch.get c).firing + (s.hcu.ch.get c).power)

/-- The channels in rotating order from the channel numbered `rr` (R99). -/
def rotation (rr : Nat) : List Channel := allChannels.rotateLeft rr

/-- The first `n` wanting channels in the order given are granted (R99). -/
def grants (wants : Channel → Bool) : Nat → List Channel → List Channel
  | 0, _ => []
  | _ + 1, [] => []
  | n + 1, c :: cs => if wants c then c :: grants wants n cs else grants wants (n + 1) cs

/-- The channels granted at a half-cycle. -/
def State.granted (s : State) : List Channel := grants s.wants s.params.concurrency (rotation s.hcu.rr)

/-- A channel's number (R91). -/
def channelNumber : Channel → Nat
  | .z1 => 0
  | .z2 => 1
  | .z3 => 2
  | .pot => 3

/-- A channel's accumulator and output after a half-cycle (R100, R101). -/
def Heater.fire (part wants granted : Bool) (u : Heater) : Heater :=
  if granted then { u with firing := u.firing + u.power - 1000, ssr := true }
  else if !part then { u with firing := 0, ssr := false }
  else if wants then { u with firing := min (u.firing + u.power) Config.firingMax, ssr := false }
  else { u with firing := u.firing + u.power, ssr := false }

/-- One half-cycle: arbitration, accumulators, outputs and the round-robin pointer (R98 to R101). -/
def State.halfCycle (s : State) : State :=
  let g := s.granted
  let fire := fun c u => Heater.fire (s.fires c) (s.wants c) (g.contains c) u
  s.modHcu fun u =>
    { u with
      ch := ⟨fire .z1 u.ch.z1, fire .z2 u.ch.z2, fire .z3 u.ch.z3, fire .pot u.ch.pot⟩
      rr := match g.getLast? with
        | some c => (channelNumber c + 1) % 4
        | none => u.rr
      lastHalf := s.timeMs
      edgeSeen := true }

/-! ## Overtemperature (R106) -/

/-- OVERTEMP latches on a channel that stands above its limit with the flag clear. -/
def State.scanOvertemp (c : Channel) (s : State) : State :=
  if s.aboveLimit c && !(s.hcu.ch.get c).overtemp then
    ((s.modCh c fun u => ({ u with overtemp := true }).zero).addIncident .overtemp (some (.channel c)) none
      (match (s.hcu.ch.get c).sample with
        | .valid t => valueOf t
        | _ => none)).newLatch .heater
  else s

/-- The check of every channel at a change of setpoint or of HEAT_EN. -/
def State.scanOvertemps (s : State) : State := allChannels.foldl (fun s c => s.scanOvertemp c) s

/-- The lowest-numbered channel whose OVERTEMP is latched in `s'` and was clear in `s`. Where several latch together, R181
says only that the first taken gives the trip cause; that it is the lowest-numbered is the model's choice (DESIGN CHOICE,
notes/assumptions/53.md). -/
def newOvertemp (s s' : State) : Option Channel :=
  allChannels.find? fun c => (s'.hcu.ch.get c).overtemp && !(s.hcu.ch.get c).overtemp

/-! ## Board exposure (R105, R109, R110, R113) -/

/-- The rank of a zone mark (Table 5.7). -/
def Mark.rank : Mark → Nat
  | .none => 0
  | .ok => 1
  | .low => 2
  | .high => 3
  | .fault => 4

/-- A record takes a mark for a zone where it ranks above the present one; LOW, HIGH and FAULT set PREHEAT_DEVIATION. -/
def BoardRecord.mark (z : Zone) (m : Mark) (r : BoardRecord) : BoardRecord :=
  if (r.marks.get z).rank < m.rank then
    let r' := { r with marks := r.marks.set z m }
    if Mark.ok.rank < m.rank then r'.flag BoardFlags.setPreheat else r'
  else r

/-- Every record that overlaps the zone takes the mark. -/
def State.markZone (z : Zone) (m : Mark) (s : State) : State := s.modRecords (fun r => s.inZone r z) (BoardRecord.mark z m)

/-- A valid sample's mark against a setpoint and band (R109). -/
def sampleMark (sp band : Nat) (t : Int) : Mark :=
  if inBand sp band t then .ok else if t < (sp : Int) - (band : Int) then .low else .high

/-- The marks made at a sample of a zone channel: by R109 when valid under an active profile, FAULT while TC_OPEN is
latched (R110). -/
def State.markSample (c : Channel) (s : State) : State :=
  match channelZone c with
  | none => s
  | some z =>
    let marked := match (s.hcu.ch.get c).sample, s.activeProfile with
      | .valid t, some p => s.markZone z (sampleMark (p.setpoint c) p.band t)
      | _, _ => s
    if (s.hcu.ch.get c).tcOpen then marked.markZone z .fault else marked

/-- A record's overlap of a zone begins: FAULT while TC_OPEN is latched on the zone (R110). -/
def State.zoneBegins (z : Zone) (k : Word) (s : State) : State :=
  if (s.hcu.ch.get z.channel).tcOpen then s.modRecord k (BoardRecord.mark z .fault) else s

/-- The centre crossing of record `k`: the latest pyrometer sample becomes its top temperature (R112). -/
def State.centreCrossing (k : Word) (s : State) : State :=
  match s.record? k with
  | none => s
  | some r =>
    match s.hcu.pyro with
    | .valid t =>
      let out := match s.recipeOf r with
        | some c => decide (t < (c.topMin : Int)) || decide ((c.topMax : Int) < t)
        | none => false
      s.modRecord k fun x =>
        let y := { x with topTemp := some t }
        if out then y.flag (fun f => { f with toptempDeviation := true }) else y
    | _ =>
      (s.modRecord k (BoardRecord.flag fun f => { f with toptempDeviation := true })).addIncident .sensorFault
        (some .pyro) r.tag none

/-- Park time of a record raised by 100 ms; PARKED once it passes the limit (R113). -/
def BoardRecord.park (limitMs : Nat) (r : BoardRecord) : BoardRecord :=
  let t := min (r.parkTime + 100) 4294967295
  let r' := { r with parkTime := t }
  if limitMs < t then r'.flag (fun f => { f with parked := true }) else r'

/-- One park-time addition to every record in a preheat zone. -/
def State.parkTick (s : State) : State := s.modRecords s.inAnyZone (BoardRecord.park (s.params.parkLimit * 1000))

/-! ## TC_OPEN (R104, R105) and MAINS_SYNC (R103) -/

/-- The latch of TC_OPEN on a channel at its third consecutive invalid sample. -/
def State.latchTcOpen (c : Channel) (s : State) : State :=
  if !(s.hcu.ch.get c).tcOpen && decide (Config.tcOpenCount ≤ (s.hcu.ch.get c).invalid) then
    let latched := ((s.modCh c fun u => ({ u with tcOpen := true }).zero).addIncident .tcOpen (some (.channel c))
      none none).newLatch .heater
    match channelZone c with
    | some z => latched.markZone z .fault
    | none => latched
  else s

/-- The latch of MAINS_SYNC. -/
def State.latchMains (s : State) : State :=
  (((s.modHcu fun u => { u with mainsSync := true }).zeroHeaters).addIncident .mainsSync none none
    (valueOf ((s.sinceHalf : Nat) : Int))).newLatch .heater

/-- A conversion of a channel becomes its latest sample, and the invalid count follows (R92, R104); the overtemperature
margin, Pmax and hold limit of the parameters come into force (R93). -/
def Heater.take (margin pmax holdLimit : Nat) (v : Sample Int) (u : Heater) : Heater :=
  let inForce := { u with margin := margin, pmax := pmax, holdLimit := holdLimit }
  match v with
  | .valid t => { inForce with sample := .valid t, invalid := 0 }
  | _ => { inForce with sample := .invalid, invalid := min (u.invalid + 1) 255 }

end Sys2Proof.Machine
end

