-- ==== Sys2Proof/Machine/Level.lean ====
section
/-! DEFINITION. The Level Unit (Section 7): the probe cycle, the schedule of requests, the level flags and the solder
feed. -/

namespace Sys2Proof.Machine

/-! ## Scheduling (R140) -/

/-- A request becomes pending with the present TIME_MS as its due time, unless PROBE_FAULT is latched (R138, R140). -/
def State.raiseRequest (s : State) : State :=
  if s.lvu.probeFault then s else s.modLvu fun u => { u with request := some s.timeMs }

/-- The age of the pending request (R140). -/
def State.requestAge (s : State) : Nat :=
  match s.lvu.request with
  | some t => elapsed s.timeMs t
  | none => 0

/-! ## The feed decision (R146) -/

/-- The unclamped feed (T − L) × feed gain / 16, in mm, T as it stood when the level was taken (R139, R146). -/
def State.feedFor (s : State) (l : Int) : Int := ((s.lvu.target - l) * (s.params.feedGain : Int)).tdiv 16

/-- A decision that makes no feed starts the level interval timer (R140). -/
def State.noFeed (s : State) : State := s.modLvu fun u => { u with interval := some 0 }

/-- Incident FEED_BUDGET with the unclamped feed, and the latch of FEED_BUDGET if it is clear (R146, case 4). -/
def State.latchBudget (feed : Int) (s : State) : State :=
  let added := s.addIncident .feedBudget none none (valueOf feed)
  if s.lvu.feedBudget then added else (added.modLvu fun u => { u with feedBudget := true }).newLatch .level

/-- A feed of `f` mm begins: the budget is lowered and the first step given (R146, R147). -/
def State.startFeed (f : Nat) (s : State) : State :=
  s.modLvu fun u => { u with budget := u.budget - f, feeder := .feeding (f * 10 - 1) 1, feedPace := 0 }

/-- The feed decision at home after a result (R146). -/
def State.feedDecision (s : State) : State :=
  match s.lvu.last with
  | none => s.noFeed
  | some (l, _) =>
    if s.psc.state == .standby || s.psc.state.isTrip then s.noFeed
    else if s.lvu.target ≤ l then s.noFeed
    else if s.lvu.high || s.lvu.wireOut then s.noFeed
    else if s.lvu.budget == 0 then (s.latchBudget (s.feedFor l)).noFeed
    else if s.feedFor l == 0 then s.noFeed
    else s.startFeed (min (min (s.feedFor l).toNat s.params.maxFeed) s.lvu.budget)

/-- A feed in progress stops, or ends, and the melt settle runs from 0 (R147, R149, R150). -/
def State.stopFeed (s : State) : State :=
  match s.lvu.feeder with
  | .feeding _ _ => s.modLvu fun u => { u with feeder := .settling, settleTimer := 0 }
  | .idle => s
  | .settling => s

/-! ## The probe (R135 to R138) -/

/-- The probe reaches PARKED; after a result the feed decision is taken (R137). -/
def State.parkProbe (s : State) : State :=
  let parked := s.modLvu fun u => { u with probe := .parked, contactTimer := 0, afterResult := false, unread := false }
  if s.lvu.afterResult then parked.feedDecision else parked

/-- An ascent begins: PRB_HOME is read, and away from home the first up step is given, whose reading follows (R135, R137). -/
def State.startAscent (afterResult : Bool) (s : State) : State :=
  let begun := s.modLvu fun u => { u with
    probe := .ascending, steps := 0, contactTimer := 0, afterResult := afterResult }
  if s.pins.probeHome then begun.parkProbe
  else begun.modLvu fun u => { u with steps := 1, pace := 0, dirUp := true, unread := true }

/-- The causes of a probe fault, with the values of their incidents (R138). -/
inductive ProbeCause
  | noContact | noHome | contactAtStart
  deriving DecidableEq, Repr

def ProbeCause.value : ProbeCause → Nat
  | .noContact => 1
  | .noHome => 2
  | .contactAtStart => 3

/-- A probe fault: its incident, and the latch with its effects if PROBE_FAULT is clear (R138). -/
def State.probeFaultTaken (c : ProbeCause) (s : State) : State :=
  let added := s.addIncident .probeFault none none (valueOf (c.value : Int))
  if s.lvu.probeFault then added
  else (added.modLvu fun u => { u with
    probeFault := true, low := false, request := none, gap := false, interval := none }).newLatch .level

/-- The probe is DESCENDING or in CONTACT: a measurement is in progress (R143). -/
def Lvu.measuring (u : Lvu) : Bool := u.probe == .descending || u.probe == .contact

/-- A measurement in progress is abandoned; `noted` adds LEVEL_ABANDONED (R143). -/
def State.abandon (noted : Bool) (s : State) : State :=
  if s.lvu.measuring then
    (if noted then s.addIncident .levelAbandoned none none (valueOf (s.lvu.steps : Int)) else s).startAscent false
  else s

/-- Entry to STANDBY or TRIP at the Level Unit (R143, R150). -/
def State.levelIdle (noted : Bool) (s : State) : State := (s.abandon noted).stopFeed

/-- The loss of steady pumps or of POT_MOLTEN abandons a measurement (R143). -/
def State.watchProbe (s : State) : State := if s.pumpsSteady && s.wpu.molten then s else s.abandon true

/-- No record's head offset lies from Pc − g − approach to Pc − g inclusive (R141, condition 6). -/
def State.approachClear (s : State) : Bool :=
  s.ctr.table.all fun r =>
    !(decide (s.ctr.map.waveIn - (s.params.approach : Int) ≤ s.head r) && decide (s.head r ≤ s.ctr.map.waveIn))

/-- The eight conditions of a measurement start (R141). -/
def State.mayMeasure (s : State) : Bool :=
  s.lvu.request.isSome && s.lvu.probe == .parked && s.psc.state.checksFlux && s.wpu.molten && s.pumpsSteady &&
    s.ctr.occupancy == 0 && s.approachClear && s.lvu.feeder == .idle && !s.lvu.probeFault

/-- A descent begins with its first down step, whose reading of PRB_CONT follows (R135, R136). -/
def State.startDescent (s : State) : State :=
  s.modLvu fun u => { u with
    probe := .descending, steps := 1, pace := 0, contactTimer := 0, dirUp := false, unread := true }

/-- An advance evaluates the start conditions (R141). -/
def State.evaluateStart (s : State) : State := s.modLvu fun u => { u with startDue := s.mayMeasure }

/-! ## Level flags at a result (R144) -/

/-- The probe's level: N_nom less the step count (R136). -/
def State.levelRead (s : State) : Int := (s.params.nNom : Int) - (s.lvu.steps : Int)

/-- The latch that a level calls for (Table 7.3). -/
def State.latchLevel (l : Int) (s : State) : State :=
  if s.params.levelH ≤ l then
    if s.lvu.high then s
    else ((s.modLvu fun u => { u with high := true }).addIncident .levelHigh none none (valueOf l)).newLatch .level
  else if l < s.params.levelC then
    if s.lvu.critical then s
    else ((s.modLvu fun u => { u with critical := true, low := false }).addIncident .levelCritical none none
      (valueOf l)).newLatch .level
  else if l < s.params.levelW then
    if s.lvu.low || s.lvu.critical || s.lvu.probeFault then s
    else ((s.modLvu fun u => { u with low := true }).addIncident .levelLow none none (valueOf l)).newLatch .level
  else s

/-- The result of a measurement and the start of the ascent that follows it (R136, R144). -/
def State.takeLevel (s : State) : State :=
  ((s.modLvu fun u => { u with
    last := some (s.levelRead, s.timeMs), target := s.params.levelT, request := none, gap := false }).latchLevel
    s.levelRead).startAscent true

/-- WIRE_OUT latches, and a feed in progress stops (R149). -/
def State.latchWire (s : State) : State :=
  (((s.modLvu fun u => { u with wireOut := true }).addIncident .wireOut none none
    (match s.lvu.feeder with
      | .feeding _ given => valueOf ((given / 10 : Nat) : Int)
      | _ => none)).newLatch .level).stopFeed

end Sys2Proof.Machine
end

