-- ==== Sys2Proof/Machine/Pump.lean ====
section
/-! DEFINITION. The Wave Pump Unit (Section 6): POT_MOLTEN, the pump state machine, the HOLD dip, contact time and wave
deviation. -/

namespace Sys2Proof.Machine

/-! ## The pump state machine (R119 to R129) -/

/-- The pump enters a stage with a target, its reference unchanged; its first ramp step is at the next multiple of 100. -/
def PumpState.enter (st : PumpStage) (target : Nat) (u : PumpState) : PumpState :=
  { u with stage := st, target := target, fresh := true }

/-- The pump comes to rest at once in COOLDOWN, its minimum-off timer from 0 (R124, R125). -/
def PumpState.cool (u : PumpState) : PumpState :=
  { u with stage := .cooldown, reference := 0, target := 0, minOff := 0, absent := 0 }

/-- The settling of a pump's state after a step or a change of its feedback (R119). -/
def PumpState.settle (u : PumpState) : PumpState :=
  match u.stage with
  | .starting => if u.reference == u.target && u.feedback then { u with stage := .running } else u
  | .running => if u.feedback then u else u.enter .starting u.target
  | .stopping => if u.reference == 0 then u.cool else u
  | .off => u
  | .dipped => u
  | .cooldown => u

/-- A reference moved toward its target by a step, and set equal to it where it would pass it (R119). -/
def rampToward (step target reference : Nat) : Nat :=
  if reference < target then min (reference + step) target else max (reference - step) target

/-- The ramp step: the ramp divided by 10, at least 1 (R119). -/
def Params.rampStep (p : Params) : Nat := max (p.ramp / 10) 1

/-- A pump's ramp step in STARTING, DIPPED or STOPPING, unless it entered the state at this very instant. -/
def PumpState.step (step : Nat) (u : PumpState) : PumpState :=
  if (u.stage == .starting || u.stage == .dipped || u.stage == .stopping) && !u.fresh then
    let r := rampToward step u.target u.reference
    { u with reference := r, absent := if r == 0 then 0 else u.absent }
  else u

/-- The step and settling of both pumps at a multiple of 100 ms (R119). -/
def State.rampStep (s : State) : State :=
  s.modWpu fun u => { u with pumps := u.pumps.map fun p => (p.step s.params.rampStep).settle }

/-- The dip target of a pump (R128), taken at the dip: R128 gives no moment at which a new idle speed reaches a pump that is
already DIPPED, and the model keeps its target (DESIGN CHOICE, notes/assumptions/51.md). -/
def State.dipTarget (s : State) (p : Pump) : Nat := min s.params.idleSpeed (s.pumpSpeed p)

/-- The pump is started where R120 allows it: DIPPED in HOLDING, STARTING otherwise. -/
def State.startPump (p : Pump) (s : State) : State :=
  if s.mayStart p then
    match s.psc.state with
    | .hold .holding _ => s.modPump p (PumpState.enter .dipped (s.dipTarget p))
    | _ => s.modPump p (PumpState.enter .starting (s.pumpSpeed p))
  else s

/-- The start permission of both pumps is evaluated (R120). -/
def State.startPumps (s : State) : State := (s.startPump .chip).startPump .main

/-- WAVE_UP at one pump (R121). -/
def State.raisePump (p : Pump) (s : State) : State :=
  match (s.wpu.pumps.get p).stage with
  | .starting => s
  | .running => s
  | .stopping =>
    if 0 < s.pumpSpeed p then s.modPump p (PumpState.enter .starting (s.pumpSpeed p)) else s
  | _ => s.startPump p

/-- A pump in one of the given stages becomes STOPPING with target 0 (R122, R127). -/
def PumpState.stopFrom (stages : List PumpStage) (u : PumpState) : PumpState :=
  if stages.contains u.stage then u.enter .stopping 0 else u

/-- A pump at a change or reload of the active profile (R123). -/
def PumpState.retarget (speed : Nat) (u : PumpState) : PumpState :=
  if u.stage == .starting || u.stage == .running then
    if 0 < speed then
      if u.reference == speed && u.feedback then { u with stage := .running, target := speed }
      else if u.stage == .starting then { u with target := speed }
      else u.enter .starting speed
    else u.enter .stopping 0
  else u

/-- The pumps at a change or reload of the active profile (R123). -/
def State.retargetPumps (s : State) : State :=
  (s.modWpu fun u => { u with pumps :=
    ⟨u.pumps.chip.retarget (s.pumpSpeed .chip), u.pumps.main.retarget (s.pumpSpeed .main)⟩ }).startPumps

/-- A pump in STARTING, RUNNING, DIPPED or STOPPING comes to rest in COOLDOWN at the loss of the molten pot (R124). -/
def PumpState.loseMelt (u : PumpState) : PumpState :=
  if u.stage == .off || u.stage == .cooldown then u else u.cool

/-- Entry to STANDBY at the pumps (R127). -/
def State.pumpsStandby (s : State) : State :=
  s.modWpu fun u => { u with
    orderUp := false, pumps := u.pumps.map (PumpState.stopFrom [.starting, .running, .dipped]) }

/-- A pump OFF at once, its timers 0 (R127). -/
def PumpState.coast (u : PumpState) : PumpState :=
  { u with stage := .off, reference := 0, target := 0, minOff := 0, absent := 0 }

/-- Entry to TRIP at the pumps (R127). -/
def State.pumpsTrip (s : State) : State :=
  s.modWpu fun u => { u with orderUp := false, pumps := u.pumps.map PumpState.coast }

/-- A pump in STARTING or RUNNING becomes DIPPED (R128). -/
def PumpState.dip (target : Nat) (u : PumpState) : PumpState :=
  if u.stage == .starting || u.stage == .running then u.enter .dipped target else u

/-- A record that overlaps the wave region at a dip: INTERRUPTED, its contact measurement dropped (R128). -/
def BoardRecord.interrupt (r : BoardRecord) : BoardRecord :=
  ({ r with wave := .interrupted, contactStart := none }).flag fun f => { f with waveInterrupted := true }

/-- The dip at each entry to HOLDING (R128), with the start permission of R120. -/
def State.dipWave (s : State) : State :=
  ((s.modWpu fun u => { u with pumps :=
    ⟨u.pumps.chip.dip (s.dipTarget .chip), u.pumps.main.dip (s.dipTarget .main)⟩ }).modRecords
      s.inWave BoardRecord.interrupt).startPumps

/-- A DIPPED pump becomes STARTING with its profile speed as target (R129). -/
def PumpState.undip (speed : Nat) (u : PumpState) : PumpState :=
  if u.stage == .dipped then u.enter .starting speed else u

/-- The change from HOLDING to RESUMING at the pumps (R129). -/
def State.resumeWave (s : State) : State :=
  (s.modWpu fun u => { u with pumps :=
    ⟨u.pumps.chip.undip (s.pumpSpeed .chip), u.pumps.main.undip (s.pumpSpeed .main)⟩ }).startPumps

/-- The latch of PUMP_FAULT on a pump (R125). -/
def State.latchPump (p : Pump) (s : State) : State :=
  ((s.modPump p fun u => { u.cool with fault := true }).addIncident .pumpFault (some (.pump p)) none
    (valueOf ((s.wpu.pumps.get p).reference : Int))).newLatch .wave

/-! ## POT_MOLTEN (R116, R117) -/

/-- The latest POT sample qualifies (R116). -/
def State.potQualifies (s : State) : Bool :=
  match s.activeProfile, s.hcu.ch.pot.sample with
  | some p, .valid t => !s.hcu.ch.pot.tcOpen && decide ((p.pot : Int) - (p.band : Int) ≤ t)
  | _, _ => false

/-- The latest POT sample ends POT_MOLTEN: invalid, under TC_OPEN, or below the setpoint less four times the band. -/
def State.potLost (s : State) : Bool :=
  s.hcu.ch.pot.tcOpen ||
    match s.activeProfile, s.hcu.ch.pot.sample with
    | some p, .valid t => decide (t < (p.pot : Int) - 4 * (p.band : Int))
    | none, .valid _ => false
    | _, _ => true

/-- POT_MOLTEN becomes false, with its incident, and the pumps stop (R117, R124). -/
def State.loseMelt (value : Option Word) (s : State) : State :=
  if s.wpu.molten then
    (s.modWpu fun u => { u with
      molten := false, meltStart := none, ripe := none, pumps := u.pumps.map PumpState.loseMelt }).addIncident .moltenLost none none value
  else s

/-- The melt timer has run for the melt hold (R116). -/
def State.meltHeld (s : State) : Bool :=
  match s.wpu.meltStart with
  | some t => decide (s.params.meltHold * 1000 ≤ elapsed s.timeMs t)
  | none => false

/-- POT_MOLTEN is false and the POT sample of this very TIME_MS qualified and found the melt timer at the melt hold (R116). A
change of the melt hold, of the setpoint or of the band since that sample has no part in it: each applies from the next POT
sample. -/
def State.moltenDue (s : State) : Bool := !s.wpu.molten && s.wpu.ripe == some s.timeMs

/-- POT_MOLTEN is set, and the start permission is evaluated (R116, R120). -/
def State.setMolten (s : State) : State := (s.modWpu fun u => { u with molten := true }).startPumps

/-- A qualifying POT sample starts an idle melt timer, lets a running one go on, and finds it at the melt hold or not
(R116). -/
def State.runMelt (s : State) : State :=
  let run := s.modWpu fun u => { u with meltStart := some (u.meltStart.getD s.timeMs) }
  run.modWpu fun u => { u with ripe := if run.meltHeld then some s.timeMs else none }

/-- The WPU takes a POT sample (R116, R117). -/
def State.takePot (s : State) : State :=
  if s.potQualifies then
    if s.runMelt.moltenDue then s.runMelt.setMolten else s.runMelt
  else
    let idle := s.modWpu fun u => { u with meltStart := none, ripe := none }
    if s.potLost then
      idle.loseMelt (match s.hcu.ch.pot.sample with
        | .valid t => valueOf t
        | _ => none)
    else idle

/-! ## Boards in the wave (R131, R132) -/

/-- The head of record `k` reaches the main line (R131). -/
def State.headAtMain (k : Word) (s : State) : State :=
  s.modRecord k fun r =>
    if r.wave == .pending then { r with wave := .inWave, contactStart := some s.timeMs } else r

/-- contact_ms lies outside the contact band of the recipe, if any (R131). -/
def contactDeviates (c : Option Recipe) (ms : Nat) : Bool :=
  match c with
  | some c => decide (ms < c.contactMin) || decide (c.contactMax < ms)
  | none => false

/-- The tail of record `k` reaches the main line (R131). -/
def State.tailAtMain (k : Word) (s : State) : State :=
  s.modRecord k fun r =>
    match r.wave, r.contactStart with
    | .inWave, some t =>
      let ms := min (elapsed s.timeMs t) 65535
      let r' := { r with wave := .done, contactMs := some ms, contactStart := none }
      if contactDeviates (s.recipeOf r) ms then r'.flag BoardFlags.setWave else r'
    | _, _ => r

/-- The head of record `k` reaches the chip line (R132, occasion 1). -/
def State.headAtChip (k : Word) (s : State) : State :=
  if decide (0 < s.pumpSpeed .chip) && s.wpu.pumps.chip.stage != .running then
    s.modRecord k (BoardRecord.flag BoardFlags.setWave)
  else s

/-- Record `k`'s overlap of the wave region begins, at the WPU (R132, occasion 2). -/
def State.waveBeginsAtPumps (k : Word) (s : State) : State :=
  if s.waveReady then s else s.modRecord k (BoardRecord.flag BoardFlags.setWave)

/-- The end of a speed window at the WPU (R132, occasion 3). -/
def State.waveWindowEnd (s : State) : State :=
  let checked := if s.wpu.notReadySeen || !s.waveReady then
      s.modRecords s.inWave (BoardRecord.flag BoardFlags.setWave)
    else s
  checked.modWpu fun u => { u with notReadySeen := !s.waveReady }

/-- The note of R132: the wave was not ready at a moment of the running window. -/
def State.noteWave (s : State) : State :=
  if s.waveReady then s else s.modWpu fun u => { u with notReadySeen := true }

end Sys2Proof.Machine
end

