-- ==== Sys2Proof/Machine/Settle.lean ====
section
/-! DEFINITION. The settle status of the Recipe and Profile Store (R57 to R61). -/

namespace Sys2Proof.Machine

/-- A restart of the settle (R59). -/
def State.restartSettle (s : State) : State := s.modRps fun u => { u with settle := .settling, settleTimer := 0 }

/-- The settle status UNSETTLED, held in STANDBY and TRIP (R57). -/
def State.unsettle (s : State) : State := s.modRps fun u => { u with settle := .unsettled, settleTimer := 0 }

/-- An excursion: while the status is SETTLING or SETTLED, a settle condition that fails makes it SETTLING from 0 (R59,
R60). -/
def State.watchSettle (s : State) : State :=
  if s.rps.settle != .unsettled && !s.settleOk then s.restartSettle else s

/-- The settle timer stands at the active profile's settle time with all conditions holding (R60). -/
def State.settleDue (s : State) : Bool :=
  s.rps.settle == .settling && s.settleOk &&
    match s.activeProfile with
    | some p => decide (p.settleTime * 1000 ≤ s.rps.settleTimer)
    | none => false

end Sys2Proof.Machine
end

