-- ==== Sys2Proof/Machine/Process.lean ====
section
/-! DEFINITION. The Process State Controller (Section 9): entry to each state with every block's reaction, the beginnings
of conditions by class, the automatic profile switch, the ADMIT line, and what follows an event before it ends. -/

namespace Sys2Proof.Machine

/-! ## Entry to a state -/

/-- The process state changes: a STATE event, and a HOLDREQ event where HOLDREQ changes (R170, R171). -/
def State.setState (p : ProcState) (s : State) : State :=
  let changed := (s.modPsc fun u => { u with state := p }).addEvent .state
  if s.psc.state.holdReq == p.holdReq then changed else changed.addEvent .holdreq

/-- The hood's counts, loss-active status and escalation timer at entry to STANDBY or TRIP (R167). -/
def HoodState.quiet (u : HoodState) : HoodState :=
  { u with warn := 0, loss := 0, fanOff := 0, lossActive := false, timer := 0 }

def State.quietHoods (s : State) : State := s.modExm fun u => { u with hoods := u.hoods.map HoodState.quiet }

/-- The subject of a trip cause (Table 9.5). -/
def TripCause.subject : TripCause → Option Subject
  | .estop => none
  | .command => some (.port .t)
  | .overtemp c => some (.channel c)
  | .tcOpenPot => some (.channel .pot)
  | .mainsSync => none
  | .escalated h => some (.hood h)
  | .hoodTrip h => some (.hood h)
  | .trackOverflow => none

/-- The code of a trip cause (Table 9.5). -/
def TripCause.code : TripCause → Nat
  | .estop => 1
  | .command => 2
  | .overtemp _ => 3
  | .tcOpenPot => 4
  | .mainsSync => 5
  | .escalated _ => 6
  | .hoodTrip _ => 7
  | .trackOverflow => 8

/-- The OVERTEMP check of a change of HEAT_EN, where the entry changes it (R106). -/
def State.scanAfter (before : Bool) (s : State) : State := if before == s.heatEn then s else s.scanOvertemps

/-- The qualify count of FLUX_P is 0 in STANDBY and TRIP (R77). -/
def State.unqualify (s : State) : State := s.modFdu fun u => { u with qualify := 0 }

/-- Every record in the table gets TRIPPED (R181). -/
def State.markTripped (s : State) : State :=
  s.modRecords (fun _ => true) (BoardRecord.flag fun f => { f with tripped := true })

/-- The grace timer IDLE (R36). -/
def State.graceIdle (s : State) : State := s.modAdu fun u => { u with grace := none }

/-- Entry to TRIP (R181) with the reactions of the other blocks (R77, R88, R102, R127, R143, R150, R167, R57, R36). -/
def State.enterTrip (c : TripCause) (s : State) : State :=
  ((((((((((s.setState (.trip c)).zeroHeaters).markTripped).addIncident .stateTrip c.subject none
    (valueOf (c.code : Int))).newLatch .trip).cutAction.unqualify).pumpsTrip.levelIdle false).quietHoods).unsettle).graceIdle
    ).scanAfter s.heatEn

/-- A trip-class condition begins (R172, R181). -/
def State.tripBegins (c : TripCause) (s : State) : State := if s.psc.state.isTrip then s else s.enterTrip c

/-- The check of R106 at a change of setpoint or of HEAT_EN; a new OVERTEMP begins its trip-class condition, that of the
lowest-numbered channel where several latch (notes/assumptions/53.md). -/
def State.checkOvertemps (s : State) : State :=
  match newOvertemp s s.scanOvertemps with
  | some c => s.scanOvertemps.tripBegins (.overtemp c)
  | none => s.scanOvertemps

/-- Entry to STANDBY from WARMING, READY or TRIP (R175, R182) with the reactions of the other blocks. -/
def State.enterStandby (s : State) : State :=
  let entered := (((((s.setState .standby).zeroHeaters).unqualify.pumpsStandby).levelIdle true).quietHoods).unsettle
  if s.heatEn then entered.checkOvertemps else entered

/-- Entry to WARMING (R174): the settle restarts, HEAT_EN is asserted, and the overtemperature limits follow it. -/
def State.enterWarming (s : State) : State := (((s.setState .warming).restartSettle).startPumps).checkOvertemps

/-- Entry to READY, RUN or DRAIN, which leave the other blocks as they are but for the start permission of R120. -/
def State.goTo (p : ProcState) (s : State) : State := (s.setState p).startPumps

/-- Entry to HOLD with substate HOLDING from RUN or DRAIN (R178, R97, R128). -/
def State.enterHold (prior : Prior) (s : State) : State :=
  ((s.setState (.hold .holding prior)).limitZones).dipWave

/-! ## Beginnings of conditions (R172) -/

/-- A hold-class condition begins (R178). -/
def State.holdBegins (s : State) : State :=
  match s.psc.state with
  | .run => s.enterHold .run
  | .drain => s.enterHold .drain
  | .hold .resuming prior => (s.setState (.hold .holding prior)).dipWave
  | .hold .holding _ => s
  | .standby => s
  | .warming => s
  | .ready => s
  | .trip _ => s

/-- A drain-class condition begins, or STOP is taken: RUN moves to DRAIN, or to READY when the table is empty; in HOLD the
prior state becomes DRAIN (R177, R178). -/
def State.drainBegins (s : State) : State :=
  match s.psc.state with
  | .run => if s.ctr.table.isEmpty then s.goTo .ready else s.goTo .drain
  | .hold sub _ => s.modPsc fun u => { u with state := .hold sub .drain }
  | .drain => s
  | .standby => s
  | .warming => s
  | .ready => s
  | .trip _ => s

/-- A probe fault with its drain-class condition, where it latches (R138, R172). -/
def State.probeFaults (c : ProbeCause) (s : State) : State :=
  if s.lvu.probeFault then s.probeFaultTaken c else (s.probeFaultTaken c).drainBegins

/-! ## Transitions that follow an event -/

/-- The stall timer is held at 0 outside RUN and DRAIN and while the table is empty (R7). -/
def State.holdStall (s : State) : State :=
  if s.psc.state.runOrDrain && !s.ctr.table.isEmpty then s else s.modCtr fun c => { c with stallTimer := 0 }

/-- DRAIN ends when the table is empty (R177). -/
def State.endDrain (s : State) : State :=
  if s.psc.state == .drain && s.ctr.table.isEmpty then s.goTo .ready else s

/-- WARMING moves to READY with SETTLED and POT_MOLTEN (R175). -/
def State.endWarming (s : State) : State :=
  if s.psc.state == .warming && s.rps.settle == .settled && s.wpu.molten then s.goTo .ready else s

/-- The state that RESUMING returns to (R179). -/
def State.resumeTarget (s : State) (p : Prior) : ProcState :=
  match p with
  | .run => .run
  | .drain => if s.ctr.table.isEmpty then .ready else .drain

/-- RESUMING returns when the wave is ready (R179). -/
def State.endResuming (s : State) : State :=
  match s.psc.state with
  | .hold .resuming prior => if s.waveReady then s.goTo (s.resumeTarget prior) else s
  | _ => s

/-- The consumers of the active profile read its new values (R48, R54, R123, R106). -/
def State.profileChanged (s : State) : State := ((s.retargetPumps).watchProbe).checkOvertemps

/-- The conditions of the automatic switch (R56). -/
def State.switchTo (s : State) : Option (Fin 8) :=
  if (s.psc.state == .ready || s.psc.state == .run) && s.ctr.table.isEmpty then
    match s.nextProfile with
    | some p => if s.rps.active == some p then none else some p
    | none => none
  else none

/-- The automatic profile switch (R56). PROFILE_SWITCH is added before the incidents of an OVERTEMP that the new setpoints latch
(DESIGN CHOICE, notes/assumptions/57.md). -/
def State.switchProfile (s : State) : State :=
  match s.switchTo with
  | some p =>
    ((((s.modRps fun u => { u with active := some p }).restartSettle).addIncident .profileSwitch none none
      (valueOf ((p.val : Nat) : Int)))).profileChanged
  | none => s

/-! ## The ADMIT line and its grace (R34, R36) -/

/-- The grace timer after a release of ADMIT; `edge` says that an entry leading edge's own record made the release. -/
def State.graceAfterRelease (s : State) (edge : Bool) : Option Nat :=
  if edge || s.psc.state.isTrip || s.params.admitGrace == 0 then none else some 0

/-- ADMIT is asserted exactly while the nine conditions hold; each change is an ADMIT event. -/
def State.followAdmit (edge : Bool) (s : State) : State :=
  if s.adu.admitOn == s.admitHolds then s
  else if s.adu.admitOn then
    (s.modAdu fun u => { u with admitOn := false, grace := s.graceAfterRelease edge }).addEvent .admitLine
  else (s.modAdu fun u => { u with admitOn := true, grace := none }).addEvent .admitLine

/-- The outputs of the alarm lines follow their activity, silence and phase (R186). -/
def State.followAlarms (s : State) : State :=
  s.modAou fun u => { u with lines :=
    ⟨{ u.lines.alm1 with conducting := s.lineConducts .alm1 },
     { u.lines.alm2 with conducting := s.lineConducts .alm2 }⟩ }

/-! ## What follows an event before it ends -/

/-- The transitions of the process state and the active profile that an event's changes call for, in the order of the
state line (DESIGN CHOICE, notes/assumptions/9.md). -/
def State.transitions (s : State) : State :=
  ((((((s.followInhibit).watchProbe).endDrain).watchSettle).endWarming).endResuming).switchProfile

/-- The reactions that follow every event that changes an input of them. -/
def State.react (edge : Bool) (s : State) : State :=
  (((((((s.transitions).followInhibit).watchProbe).watchSettle).holdStall).noteWave).followAdmit edge).followAlarms

/-- The reactions to an event that is not an entry leading edge. -/
def State.finish (s : State) : State := s.react false

end Sys2Proof.Machine
end

