-- ==== Sys2Proof/Machine/Outcome.lean ====
section
/-! DEFINITION. The hand-over of a board record to the Outcome Queue (R22, R23, R189, R190). -/

namespace Sys2Proof.Machine

/-- The outcome formed from a record (Table 10.4). -/
def outcomeOf (number time : Word) (lost : Bool) (r : BoardRecord) : Outcome where
  number := number
  tag := r.tag
  recipe := r.recipe
  verdict := verdictOf lost r.flags
  flags := r.flags
  entryTime := r.entryTime
  exitTime := time
  length := r.length.getD 0
  flux := r.flux
  doses := r.doses
  marks := r.marks
  topTemp := r.topTemp
  wave := r.wave
  contactMs := r.contactMs

/-- The outcome joins the queue at the young end, with an EXIT event (R190). -/
def State.formOutcome (lost : Bool) (r : BoardRecord) (s : State) : State :=
  (s.modOq fun u => { u with
    outcomes := u.outcomes ++ [outcomeOf (u.counter + 1) s.timeMs lost r], counter := u.counter + 1 }).addEvent .exit

/-- A record leaves the table; one that overlaps the wave region lowers the occupancy (R20). -/
def State.removeRecord (r : BoardRecord) (s : State) : State :=
  s.modCtr fun c => { c with
    table := c.table.eraseP (fun x => x.entryPos == r.entryPos),
    occupancy := if s.inWave r then c.occupancy - 1 else c.occupancy }

/-- Record `k` leaves by exit completion or as a lost board: the FDU settles its lanes, the record is removed, its outcome
is formed and its recipe reference released (R22, R23, R76, R189). -/
def State.departRecord (lost : Bool) (k : Word) (s : State) : State :=
  match (s.fluxDeparture k).record? k with
  | some r => (((s.fluxDeparture k).removeRecord r).formOutcome lost r).releaseRef r
  | none => s

end Sys2Proof.Machine
end

