-- ==== Sys2Proof/Machine/Track.lean ====
section
/-! DEFINITION. The events of the Conveyor Tracker (Section 1) with the Admission Unit's decision at the entry edge
(Section 2): encoder, speed window, stall, entry and exit edges, and the crossings. -/

namespace Sys2Proof.Machine

/-! ## Crossings of one record (R18, Table 1.4) -/

/-- An action on the record named `k` where the record is in the table and the condition holds of it. -/
def onRecord (k : Word) (cond : State → BoardRecord → Bool) (f : State → State) (s : State) : State :=
  match s.record? k with
  | some r => if cond s r then f s else s
  | none => s

/-- The head offset at which the flux window starts; none without a recipe (R69). -/
def State.windowStartAt (s : State) (r : BoardRecord) : Option Int :=
  (s.recipeOf r).map fun c => (s.ctr.map.pf : Int) + (c.leadIn : Int)

/-- The head offset at which the flux window ends; none without a recipe or a length (R73). -/
def State.windowEndAt (s : State) (r : BoardRecord) : Option Int :=
  match s.recipeOf r, r.length with
  | some c, some l => some ((s.ctr.map.pf : Int) + (l : Int) - (c.leadOut : Int))
  | _, _ => none

/-- The head offset of the centre crossing; none without a length (R112). -/
def State.centreAt (s : State) (r : BoardRecord) : Option Int :=
  r.length.map fun l => (s.ctr.map.pp : Int) + ((l / 2 : Nat) : Int)

/-- Flux window crossings are issued only for PENDING and ACTIVE records (R18). -/
def BoardRecord.windowed (r : BoardRecord) : Bool := r.flux == .pending || r.flux == .active

/-- A head reaching Pc − g or beginning to overlap the wave region abandons a measurement (R143). -/
def State.guardReached (s : State) : State := s.abandon true

/-- Record `k`'s overlap of the wave region begins (R20, R132, R143). -/
def State.waveBegins (k : Word) (s : State) : State :=
  ((s.modCtr fun c => { c with occupancy := c.occupancy + 1 }).abandon true).waveBeginsAtPumps k

/-- A record's overlap of the wave region ends (R20). -/
def State.waveEnds (s : State) : State := s.modCtr fun c => { c with occupancy := c.occupancy - 1 }

/-- An ENTERING record's head passes 6000 (R16). -/
def State.overlength (k : Word) (s : State) : State :=
  match s.record? k with
  | some r => (((s.addIncident .overlength none r.tag (valueOf (s.head r))).latchTrack).holdBegins)
  | none => s

/-- An EXITING record's tail passes Px + w: a jam while EXIT_N is BLOCKED, otherwise the completion of a record left in
EXITING (R22, R24). -/
def State.exitOverrun (k : Word) (s : State) : State :=
  match s.record? k with
  | some r =>
    if s.ctr.exitBlocked then
      (((s.addIncident .exitJam none r.tag (valueOf (s.tail r))).latchTrack).holdBegins)
    else s.departRecord false k
  | none => s

/-- The oldest TRAVEL record's head is past Px + w (R23). In RUN the state is HOLD when the switch of R56 is evaluated, so a loss
that empties the table makes no switch (DESIGN CHOICE, notes/assumptions/56.md). -/
def State.boardLost (k : Word) (s : State) : State :=
  match s.record? k with
  | some r => ((((s.departRecord true k).addIncident .boardLost none r.tag (valueOf (s.head r))).latchTrack).holdBegins)
  | none => s

/-- The record `r` is the oldest in TRAVEL and its head is past Px + w (R23). -/
def State.isLost (s : State) (r : BoardRecord) : Bool :=
  (s.oldestTravel?.map BoardRecord.entryPos) == some r.entryPos &&
    decide ((s.ctr.map.px : Int) + (s.ctr.map.w : Int) < s.head r)

/-- The crossings of record `k` at an advance, in the order of Table 1.4 (the ends of zone overlaps concern no state). -/
def crossings (k : Word) : List (State → State) :=
  [onRecord k (fun s r => r.windowed && s.windowStartAt r == some (s.head r)) (State.fluxWindowStart k),
   onRecord k (fun s r => s.head r == (s.ctr.map.z1in : Int) + 1) (State.zoneBegins .z1 k),
   onRecord k (fun s r => s.head r == (s.ctr.map.z2in : Int) + 1) (State.zoneBegins .z2 k),
   onRecord k (fun s r => s.head r == (s.ctr.map.z3in : Int) + 1) (State.zoneBegins .z3 k),
   onRecord k (fun s r => r.stage == .entering && s.head r == (Config.lengthMax : Int) + 1) (State.overlength k),
   onRecord k (fun s r => s.centreAt r == some (s.head r)) (State.centreCrossing k),
   onRecord k (fun s r => s.head r == s.ctr.map.waveIn) State.guardReached,
   onRecord k (fun s r => s.head r == s.ctr.map.waveIn + 1) (State.waveBegins k),
   onRecord k (fun s r => s.head r == (s.ctr.map.pc : Int)) (State.headAtChip k),
   onRecord k (fun s r => s.head r == (s.ctr.map.pm : Int)) (State.headAtMain k),
   onRecord k (fun s r => r.windowed && s.windowEndAt r == some (s.head r)) (State.fluxWindowEnd false k),
   onRecord k (fun s r => r.length.isSome && s.tail r == (s.ctr.map.pm : Int)) (State.tailAtMain k),
   onRecord k (fun s r => r.length.isSome && s.tail r == s.ctr.map.waveOut) State.waveEnds,
   onRecord k (fun s r => r.stage == .exiting && r.length.isSome &&
     s.tail r == (s.ctr.map.px : Int) + (s.ctr.map.w : Int) + 1) (State.exitOverrun k),
   onRecord k State.isLost (State.boardLost k)]

/-- The crossings of one record, taken in order. -/
def State.crossRecord (s : State) (k : Word) : State := (crossings k).foldl (fun s f => f s) s

/-- An advance: accumulation, the crossings of every record, oldest first, and the pulse starts (R18, R72). -/
def State.advance (s : State) : State :=
  let fed := s.accumulateAll
  let crossed := if fed.ctr.mapValid then (fed.ctr.table.map BoardRecord.entryPos).foldl State.crossRecord fed else fed
  crossed.startPulses

/-! ## The encoder (R1 to R4) -/

/-- What a change of the encoder lines is. -/
inductive Turn
  | none | forward | reverse | glitch
  deriving DecidableEq, Repr

/-- The position of a pair of levels in the quadrature cycle; ENC_A leads ENC_B forward (PRESUMED,
notes/assumptions/2.md). -/
def quadrature : Bool → Bool → Nat
  | false, false => 0
  | true, false => 1
  | true, true => 2
  | false, true => 3

/-- The ×4 decoding of a change from the accepted state to new levels (R1). -/
def turnOf (a b a' b' : Bool) : Turn :=
  match (quadrature a' b' + 4 - quadrature a b) % 4 with
  | 0 => .none
  | 1 => .forward
  | 3 => .reverse
  | _ => .glitch

/-- The lines become the accepted state. -/
def State.acceptLines (a b : Bool) (s : State) : State := s.modCtr fun c => { c with encA := a, encB := b }

/-- A quadrature glitch (R4). -/
def State.glitch (s : State) : State :=
  let marked := s.allUnsure
  match s.inl.incidents.getLast? with
  | some i =>
    if i.code == .encoderGlitch && decide (elapsed s.timeMs i.time < 1000) then marked
    else marked.addIncident .encoderGlitch none none none
  | none => marked.addIncident .encoderGlitch none none none

/-- A forward count: POS, and at an advance HWM and the crossings (R1, R2). -/
def State.countForward (s : State) : State :=
  let counted := s.modCtr fun c => { c with pos := c.pos + 1, net := c.net + 1, counted := true, stallTimer := 0 }
  if past counted.ctr.pos counted.ctr.hwm then
    (counted.modCtr fun c => { c with hwm := c.pos }).advance
  else counted

/-- The reverse limit: the count that takes E from 500 to 501 (R3). -/
def State.reverseLimit (s : State) : State :=
  ((((s.latchTrack).addIncident .reverseLimit none none (valueOf 501)).allUnsure).holdBegins)

/-- A reverse count (R1, R3). -/
def State.countReverse (s : State) : State :=
  let counted := s.modCtr fun c => { c with pos := c.pos - 1, net := c.net - 1, counted := true, stallTimer := 0 }
  if counted.ctr.excursion == Config.reverseLimit + 1 then counted.reverseLimit else counted

/-- The levels of the encoder pins. -/
def State.encoderPins (a b : Bool) (s : State) : State := s.modPins fun p => { p with encA := a, encB := b }

/-- The next forward count is an advance (R2). -/
def State.advances (s : State) : Bool := past (s.ctr.pos + 1) s.ctr.hwm

/-- ENCODER_COUNT (R1): the lines change to `a` and `b`; an advance evaluates the start of a measurement (R141). -/
def execEncoderCount (a b : Bool) (s : State) : Result :=
  let next := (s.encoderPins a b).acceptLines a b
  match turnOf s.ctr.encA s.ctr.encB a b with
  | .none => .next (s.encoderPins a b)
  | .forward => .next (if s.advances then next.countForward.finish.evaluateStart else next.countForward.finish)
  | .reverse => .next next.countReverse.finish
  | .glitch => .next next.glitch

/-- QUADRATURE_GLITCH (R4): both lines change at once. -/
def execQuadratureGlitch (s : State) : Result :=
  .next ((s.encoderPins (!s.ctr.encA) (!s.ctr.encB)).acceptLines (!s.ctr.encA) (!s.ctr.encB)).glitch

/-! ## Speed and stall (R5 to R7) -/

/-- The speed-band check at a window end (R6). -/
def State.speedCheck (s : State) : State :=
  match s.activeProfile with
  | some p =>
    if s.psc.state.runOrDrain &&
        (decide (s.ctr.speed < (p.speedMin : Int)) || decide ((p.speedMax : Int) < s.ctr.speed)) then
      s.modRecords (fun r => s.inAnyZone r || s.inWave r) (BoardRecord.flag fun f => { f with speedDeviation := true })
    else s
  | none => s

/-- The stall accounting at a window end (R7); `still` says that no count was taken in the window. -/
def State.stallCount (still : Bool) (s : State) : State :=
  if s.psc.state.runOrDrain && !s.ctr.table.isEmpty && still then
    s.modCtr fun c => { c with stallTimer := c.stallTimer + 100 }
  else s

/-- The stall timer runs and stands at or past the stall timeout (R7). -/
def State.stallDue (s : State) : Bool :=
  s.psc.state.runOrDrain && !s.ctr.table.isEmpty && decide (s.params.stallTimeout ≤ s.ctr.stallTimer)

/-- STALL is raised (R7). -/
def State.raiseStall (s : State) : State :=
  ((s.addIncident .stall none none (valueOf (s.ctr.table.length : Int))).modCtr fun c =>
    { c with stallTimer := 0 }).holdBegins

/-- The speed of a window that ends, and the next window's beginning (R5). -/
def State.endWindow (s : State) : State :=
  s.modCtr fun c => { c with speed := c.net, net := 0, counted := false }

/-- A window end: speed, speed-band check, stall accounting and wave check (R5 to R7, R132 case 3), then a stall that is due.
That the wave check comes before the HOLD that the stall begins is the model's choice (DESIGN CHOICE,
notes/assumptions/63.md). -/
def State.windowEnd (s : State) : State :=
  let ended := ((((s.endWindow).speedCheck).stallCount (!s.ctr.counted)).waveWindowEnd).holdStall
  if ended.stallDue then ended.raiseStall.finish else ended

/-- SPEED_WINDOW_END (R5) at a multiple of 100 ms. -/
def execSpeedWindowEnd (s : State) : Result := whenDue (s.atMultiple 100) State.windowEnd s

/-- STALL (R7). -/
def execStall (s : State) : Result := whenDue s.stallDue (fun s => s.raiseStall.finish) s

/-! ## The entry edge (R14, R37 to R42) -/

/-- A sensor edge taken with E above 0 (R14, R15, R21, R22). -/
def State.sensorReversed (sub : Subject) (s : State) : State :=
  (s.allUnsure).addIncident .sensorReversed (some sub) none (valueOf ((s.ctr.excursion : Nat) : Int))

/-- The board is admitted: ADMIT asserted or the grace running, and a next recipe exists (R37). -/
def State.admits (s : State) : Bool := (s.adu.admitOn || s.adu.grace.isSome) && s.nextRecipe.isSome

/-- A record at its creation, before its binding (Table 1.2). -/
def State.newRecord (s : State) : BoardRecord where
  tag := none
  recipe := none
  profile := none
  origin := none
  entryPos := s.ctr.hwm
  length := none
  entryTime := s.timeMs
  stage := .entering
  flux := .notRequired
  doses := []
  sprayed := 0
  marks := ⟨.none, .none, .none⟩
  topTemp := none
  wave := .pending
  contactMs := none
  contactStart := none
  parkTime := 0
  flags := { BoardFlags.empty with extractionEvent := s.extractionLost }

/-- A record joins the table at the young end (R14). -/
def State.pushRecord (r : BoardRecord) (s : State) : State := s.modCtr fun c => { c with table := c.table ++ [r] }

/-- A record bound to recipe `i`: its profile and flux fields, and PROFILE_MISMATCH (R38 to R40, R68). -/
def State.boundRecord (s : State) (tag : Option Word) (i : Fin 32) (o : Origin) : BoardRecord :=
  let c := s.recipeAt i
  let r := s.newRecord
  { r with
    tag := tag
    recipe := some i
    profile := c.map Recipe.profile
    origin := some o
    flux := (fluxFields c).1
    doses := (fluxFields c).2
    flags := { r.flags with profileMismatch := !(c.isSome && c.map Recipe.profile == s.rps.active) } }

/-- An admitted board is bound to the front ticket, or to the default recipe when the queue is empty (R38, R39). -/
def State.bindBoard (s : State) : State :=
  match s.adu.queue with
  | t :: rest => (s.pushRecord (s.boundRecord t.tag t.recipe .ticket)).modAdu fun u => { u with queue := rest }
  | [] =>
    match s.adu.default with
    | some i => (s.pushRecord (s.boundRecord none i .default)).incRef i
    | none => s

/-- UNEXPECTED_BOARD (R46). -/
def State.noteUnexpected (s : State) : State :=
  s.addIncident .unexpectedBoard (some .entry) none (valueOf ((s.ctr.hwm.toNat : Nat) : Int))

/-- An unexpected board gets an UNSCHEDULED record, and TRACK_ALERT latches (R41). -/
def State.unexpectedBoard (s : State) : State :=
  let r := s.newRecord
  ((s.noteUnexpected).pushRecord { r with flags := { r.flags with unscheduled := true } }).latchTrack

/-- An entry edge without space (R14 case 4, R42). -/
def State.overflowEdge (s : State) : State :=
  let tripped := (s.addIncident .trackOverflow none none (valueOf (s.ctr.table.length : Int))).tripBegins .trackOverflow
  (if s.admits then tripped else tripped.noteUnexpected).graceIdle

/-- An entry edge given to the ADU with space for a record (R14 case 5, R36, R37). -/
def State.boardEdge (s : State) : State := (if s.admits then s.bindBoard else s.unexpectedBoard).graceIdle

/-- The cases of R14, once ENTRY_N is taken BLOCKED. -/
def State.entryEdge (s : State) : State :=
  if 0 < s.ctr.excursion then s.sensorReversed .entry
  else if !s.ctr.mapValid then s.addIncident .noGeometry none none (valueOf ((s.ctr.hwm.toNat : Nat) : Int))
  else if s.boardEntering then
    (match s.youngest? with
      | some r => s.modRecord r.entryPos (BoardRecord.flag BoardFlags.setUnsure)
      | none => s).addIncident .sensorReversed (some .entry) none (valueOf ((s.ctr.excursion : Nat) : Int))
  else if !s.hasSpace then s.overflowEdge.finish
  else s.boardEdge.react true

/-- The level of the pin ENTRY_N. -/
def State.entryPin (blocked : Bool) (s : State) : State := s.modPins fun p => { p with entryBlocked := blocked }

/-- The level of the pin EXIT_N. -/
def State.exitPin (blocked : Bool) (s : State) : State := s.modPins fun p => { p with exitBlocked := blocked }

/-- The taken level of ENTRY_N. -/
def State.takeEntry (blocked : Bool) (s : State) : State := s.modCtr fun c => { c with entryBlocked := blocked }

/-- The taken level of EXIT_N. -/
def State.takeExit (blocked : Bool) (s : State) : State := s.modCtr fun c => { c with exitBlocked := blocked }

/-- ENTRY_LEADING_EDGE (R14): ENTRY_N changes from CLEAR to BLOCKED. -/
def execEntryLeadingEdge (s : State) : Result :=
  whenDue (!s.ctr.entryBlocked) (fun s => (s.takeEntry true).entryEdge) (s.entryPin true)

/-! ## The entry trailing edge (R15, R19, R43) -/

/-- The ADU undoes the binding of a debris record (R43). -/
def State.restoreBinding (r : BoardRecord) (s : State) : State :=
  match r.origin, r.recipe with
  | some .ticket, some i => s.modAdu fun u => { u with queue := ⟨r.tag, i⟩ :: u.queue }
  | some .default, some i => s.decRef i
  | _, _ => s

/-- The youngest record, `r`, leaves the table; one that overlaps the wave region lowers the occupancy (R15, R20). -/
def State.removeYoungest (r : BoardRecord) (s : State) : State :=
  s.modCtr fun c => { c with
    table := c.table.dropLast, occupancy := if s.inWave r then c.occupancy - 1 else c.occupancy }

/-- Debris: the binding undone, the record removed, and incident DEBRIS (R15, R43, R76). -/
def State.debris (r : BoardRecord) (len : Nat) (s : State) : State :=
  ((((s.restoreBinding r).fluxDebris r.entryPos).removeYoungest r).addIncident .debris none r.tag (valueOf (len : Int)))

/-- The catch-up crossings of R19 with their head offsets, in the order of Table 1.4. -/
def State.catchUps (s : State) (r : BoardRecord) : List (Int × (State → State)) :=
  let k := r.entryPos
  match r.length with
  | none => []
  | some l =>
    [((s.ctr.map.pp : Int) + ((l / 2 : Nat) : Int), State.centreCrossing k)] ++
    (match s.windowEndAt r with
      | some x => if r.windowed then [(x, State.fluxWindowEnd true k)] else []
      | none => []) ++
    [((s.ctr.map.pm : Int) + (l : Int), State.tailAtMain k), (s.ctr.map.waveOut + (l : Int), State.waveEnds)]

/-- An item placed by its offset, after the items of equal offset. -/
def insertByOffset (x : Int × (State → State)) : List (Int × (State → State)) → List (Int × (State → State))
  | [] => [x]
  | y :: ys => if x.1 < y.1 then x :: y :: ys else y :: insertByOffset x ys

/-- Items in increasing order of offset. -/
def sortByOffset (xs : List (Int × (State → State))) : List (Int × (State → State)) :=
  xs.foldl (fun acc x => insertByOffset x acc) []

/-- The catch-up crossings already reached or passed, in increasing order of offset (R19). -/
def State.catchUp (k : Word) (s : State) : State :=
  match s.record? k with
  | none => s
  | some r => ((sortByOffset (s.catchUps r)).filter fun x => decide (x.1 ≤ s.head r)).foldl (fun s x => x.2 s) s

/-- The length of a record that leaves ENTERING, POSITION_UNSURE where it is longer than 6000 (R15). -/
def BoardRecord.enter (len : Nat) (r : BoardRecord) : BoardRecord :=
  let r' := { r with length := some (min len Config.lengthMax), stage := .travel }
  if Config.lengthMax < len then r'.flag BoardFlags.setUnsure else r'

/-- The lost-board check on the oldest TRAVEL record (R23). -/
def State.lostCheck (s : State) : State :=
  match s.oldestTravel? with
  | some r => if s.isLost r then s.boardLost r.entryPos else s
  | none => s

/-- The cases of R15, once ENTRY_N is taken CLEAR. -/
def State.entryTrail (s : State) : State :=
  if 0 < s.ctr.excursion then s.sensorReversed .entry
  else match s.youngest? with
    | none => s
    | some r =>
      if r.stage != .entering then s
      else
        let len := elapsed s.ctr.hwm r.entryPos
        if len < Config.lengthMin then (s.debris r len).finish
        else ((((s.modRecord r.entryPos (BoardRecord.enter len)).catchUp r.entryPos).lostCheck)).finish

/-- ENTRY_TRAILING_EDGE (R15): ENTRY_N changes from BLOCKED to CLEAR. -/
def execEntryTrailingEdge (s : State) : Result :=
  whenDue s.ctr.entryBlocked (fun s => (s.takeEntry false).entryTrail) (s.entryPin false)

/-! ## The exit edges (R21, R22) -/

/-- A record in EXITING is completed (R22). -/
def State.completeExiting (s : State) : State :=
  match s.exiting? with
  | some r => s.departRecord false r.entryPos
  | none => s

/-- The match of an exit leading edge with E = 0 (R21, cases 2 and 3). -/
def State.matchExit (s : State) : State :=
  match s.oldestTravel? with
  | some r =>
    if decide ((s.ctr.map.px : Int) - (s.ctr.map.w : Int) ≤ s.head r) &&
        decide (s.head r ≤ (s.ctr.map.px : Int) + (s.ctr.map.w : Int)) then
      s.modRecord r.entryPos fun x => { x with stage := .exiting }
    else s.addIncident .phantomExit none none (valueOf ((s.ctr.hwm.toNat : Nat) : Int))
  | none => s.addIncident .phantomExit none none (valueOf ((s.ctr.hwm.toNat : Nat) : Int))

/-- The cases of R21, once EXIT_N is taken BLOCKED. -/
def State.exitEdge (s : State) : State :=
  if 0 < s.ctr.excursion then s.sensorReversed .exit else ((s.completeExiting).matchExit).finish

/-- EXIT_LEADING_EDGE (R21): EXIT_N changes from CLEAR to BLOCKED. -/
def execExitLeadingEdge (s : State) : Result :=
  whenDue (!s.ctr.exitBlocked) (fun s => (s.takeExit true).exitEdge) (s.exitPin true)

/-- The cases of R22, once EXIT_N is taken CLEAR. -/
def State.exitTrail (s : State) : State :=
  if 0 < s.ctr.excursion then s.sensorReversed .exit else (s.completeExiting).finish

/-- EXIT_TRAILING_EDGE (R22): EXIT_N changes from BLOCKED to CLEAR. -/
def execExitTrailingEdge (s : State) : Result :=
  whenDue s.ctr.exitBlocked (fun s => (s.takeExit false).exitTrail) (s.exitPin false)

end Sys2Proof.Machine
end

