-- ==== Sys2Proof/Machine/Admission.lean ====
section
/-! DEFINITION. The Admission Unit's commands and its grace expiry (Section 2), and the commands of the Recipe and Profile
Store with the end of the settle (Section 3). -/

namespace Sys2Proof.Machine

/-! ## The grace of ADMIT (R36) -/

/-- A RUNNING grace timer stands at or past the grace of ADMIT. -/
def State.graceDue (s : State) : Bool :=
  match s.adu.grace with
  | some n => decide (s.params.admitGrace ≤ n)
  | none => false

/-- ADMIT_GRACE_EXPIRY (R36): the grace timer enters IDLE. -/
def execAdmitGraceExpiry (s : State) : Result := whenDue s.graceDue State.graceIdle s

/-! ## The ticket queue (R29 to R31) -/

/-- A ticket in the layout of ADD_TICKET (R200). -/
def putTicket (t : Ticket) : List Byte := putOpt putWord 0#32 t.tag ++ put1 t.recipe.val

/-- The tag of an ADD_TICKET request: present when bit 0 of the presence byte is set. -/
def requestTag (pl : List Byte) : Option Word :=
  if byteAt pl 0 == 1 then some (BitVec.ofNat 32 (longAt pl 1)) else none

/-- A ticket joins the queue at the young end and takes a reference (R28, R53). -/
def State.pushTicket (t : Ticket) (s : State) : State :=
  (s.modAdu fun u => { u with queue := u.queue ++ [t] }).incRef t.recipe

/-- A tag, if any, is held already (R29, order 4). -/
def State.duplicateTag (s : State) (tag : Option Word) : Bool :=
  match tag with
  | some t => s.tagHeld t
  | none => false

/-- ADD_TICKET (R29); TRIP is refused by its availability. -/
def cmdAddTicket (pl : List Byte) (s : State) : Taken :=
  match recipeIndex pl 5 with
  | none => refused .range s
  | some i =>
    if 1 < byteAt pl 0 then refused .range s
    else if (s.recipeAt i).isNone then refused .noRecipe s
    else if s.duplicateTag (requestTag pl) then refused .duplicate s
    else if s.placesFree == 0 then refused .full s
    else (answer (put1 (s.adu.queue.length + 1)), (s.pushTicket ⟨requestTag pl, i⟩).finish)

/-- WITHDRAW_TICKET (R30). -/
def cmdWithdrawTicket (s : State) : Taken :=
  match s.adu.queue.getLast? with
  | none => refused .empty s
  | some t =>
    (answer (putTicket t), ((s.modAdu fun u => { u with queue := u.queue.dropLast }).decRef t.recipe).finish)

/-- Every ticket leaves the queue, each with a release of its reference (R31). -/
def State.flushQueue (s : State) : State :=
  s.adu.queue.foldl (fun s t => s.decRef t.recipe) (s.modAdu fun u => { u with queue := [] })

/-- FLUSH_TICKETS (R31). -/
def cmdFlushTickets (s : State) : Taken := (answer (put1 s.adu.queue.length), s.flushQueue.finish)

/-- The default designation replaced. -/
def State.setDefault (d : Option (Fin 32)) (s : State) : State := s.modAdu fun u => { u with default := d }

/-- SET_DEFAULT (R32); H'FF is none (R200). -/
def cmdSetDefault (pl : List Byte) (s : State) : Taken :=
  if byteAt pl 0 == 255 then (okReply, (s.setDefault none).finish)
  else match recipeIndex pl 0 with
    | none => refused .range s
    | some i =>
      if (s.recipeAt i).isNone then refused .noRecipe s else (okReply, (s.setDefault (some i)).finish)

/-! ## Process profiles (R48, R49, R55) -/

/-- The fields of a LOAD_PROFILE request, in the order of Table 3.1 (R200, R205). -/
def requestProfile (pl : List Byte) : Profile where
  z1 := wordAt pl 1
  z2 := wordAt pl 3
  z3 := wordAt pl 5
  pot := wordAt pl 7
  band := byteAt pl 9
  chip := wordAt pl 10
  main := wordAt pl 12
  speedMin := byteAt pl 14
  speedMax := byteAt pl 15
  settleTime := wordAt pl 16
  boost := wordAt pl 18

/-- A profile with each field clamped to its range in Table 3.1. -/
def Profile.clamped (p : Profile) : Profile where
  z1 := clampNat 500 3500 p.z1
  z2 := clampNat 500 3500 p.z2
  z3 := clampNat 500 3500 p.z3
  pot := clampNat 2000 3000 p.pot
  band := clampNat 20 200 p.band
  chip := clampNat 0 1000 p.chip
  main := clampNat 100 1000 p.main
  speedMin := clampNat 5 50 p.speedMin
  speedMax := clampNat 5 50 p.speedMax
  settleTime := clampNat 10 600 p.settleTime
  boost := clampNat 0 300 p.boost

/-- The process state is RUN, DRAIN or HOLD: the active profile is not reloaded (Table 3.2). -/
def ProcState.runsBoards (p : ProcState) : Bool := p.runOrDrain || p.isHold

/-- A settle restart that WARMING and READY alone make (R48, R55). -/
def State.restartIfWarm (s : State) : State :=
  if s.psc.state == .warming || s.psc.state == .ready then s.restartSettle else s

/-- The record of profile `i` set. -/
def State.setProfile (i : Fin 8) (p : Option Profile) (s : State) : State :=
  s.modRps fun u => { u with profiles := u.profiles.set i p }

/-- A profile accepted by LOAD_PROFILE; a reload of the active profile reaches its consumers at once (R48). -/
def State.loadProfile (i : Fin 8) (p : Profile) (s : State) : State :=
  let loaded := s.setProfile i (some p)
  if s.rps.active == some i then ((loaded.restartIfWarm).profileChanged).finish else loaded

/-- LOAD_PROFILE (R48). -/
def cmdLoadProfile (pl : List Byte) (s : State) : Taken :=
  match profileIndex pl 0 with
  | none => refused .range s
  | some i =>
    let p := (requestProfile pl).clamped
    if s.rps.active == some i && s.psc.state.runsBoards then refused .inUse s
    else if p.speedMax < p.speedMin then refused .range s
    else (clampReply (p != requestProfile pl) [], s.loadProfile i p)

/-- A LOADED recipe names the profile (R49). -/
def State.profileNamed (s : State) (i : Fin 8) : Bool :=
  s.rps.recipes.toList.any fun r =>
    match r with
    | some c => c.profile == i
    | none => false

/-- ERASE_PROFILE (R49). -/
def cmdEraseProfile (pl : List Byte) (s : State) : Taken :=
  match profileIndex pl 0 with
  | none => refused .range s
  | some i =>
    if s.rps.active == some i || s.profileNamed i then refused .inUse s else (okReply, s.setProfile i none)

/-- Profile `i` becomes the active profile at a SELECT_PROFILE (R55). -/
def State.selectProfile (i : Fin 8) (s : State) : State :=
  (((s.modRps fun u => { u with active := some i }).restartIfWarm).profileChanged).finish

/-- SELECT_PROFILE (R55). -/
def cmdSelectProfile (pl : List Byte) (s : State) : Taken :=
  match profileIndex pl 0 with
  | none => refused .range s
  | some i => if (s.profileAt i).isNone then refused .noProfile s else (okReply, s.selectProfile i)

/-! ## Recipes (R51, R52) -/

/-- The fields of a LOAD_RECIPE request, in the order of Table 3.3 (R200, R205), its profile field checked. -/
def requestRecipe (pl : List Byte) (profile : Fin 8) : Recipe where
  name := (pl.drop 1).take 8
  profile := profile
  density := wordAt pl 10
  laneMask := pl.getD 12 0
  leadIn := wordAt pl 13
  leadOut := wordAt pl 15
  contactMin := wordAt pl 17
  contactMax := wordAt pl 19
  topMin := wordAt pl 21
  topMax := wordAt pl 23
  minGap := wordAt pl 25

/-- A recipe with each numeric field clamped to its range in Table 3.3. -/
def Recipe.clamped (c : Recipe) : Recipe :=
  { c with
    density := clampNat 0 1500 c.density
    leadIn := clampNat 0 1000 c.leadIn
    leadOut := clampNat 0 1000 c.leadOut
    contactMin := clampNat 500 10000 c.contactMin
    contactMax := clampNat 500 10000 c.contactMax
    topMin := clampNat 500 2000 c.topMin
    topMax := clampNat 500 2000 c.topMax
    minGap := clampNat 100 5000 c.minGap }

/-- A recipe is protected: its reference count is above 0, or it is the default recipe (R51, R52). -/
def State.recipeProtected (s : State) (i : Fin 32) : Bool :=
  decide (0 < s.rps.refs[i]) || s.adu.default == some i

/-- Every character of a name lies from H'20 to H'7E. -/
def namePrintable (name : List Byte) : Bool := name.all fun b => decide (0x20 ≤ b.toNat) && decide (b.toNat ≤ 0x7E)

/-- Checks 5 to 7 of Table 3.4 on a clamped recipe: true where one of them refuses. -/
def Recipe.inconsistent (c : Recipe) : Bool :=
  (decide (0 < c.density) && c.laneMask == 0#8) || decide (c.contactMax < c.contactMin) || decide (c.topMax < c.topMin)

/-- The record of recipe `i` set. -/
def State.setRecipe (i : Fin 32) (c : Option Recipe) (s : State) : State :=
  s.modRps fun u => { u with recipes := u.recipes.set i c }

/-- The profile of a LOAD_RECIPE request, where it names a LOADED profile (Table 3.4, order 3). -/
def State.requestedProfile (s : State) (pl : List Byte) : Option (Fin 8) :=
  (profileIndex pl 9).filter fun i => (s.profileAt i).isSome

/-- LOAD_RECIPE (R51). -/
def cmdLoadRecipe (pl : List Byte) (s : State) : Taken :=
  match recipeIndex pl 0 with
  | none => refused .range s
  | some i =>
    if s.recipeProtected i then refused .inUse s
    else match s.requestedProfile pl with
      | none => refused .noProfile s
      | some q =>
        let given := requestRecipe pl q
        if !namePrintable given.name then refused .range s
        else if given.clamped.inconsistent then refused .range s
        else (clampReply (given.clamped != given) [], s.setRecipe i (some given.clamped))

/-- ERASE_RECIPE (R52). -/
def cmdEraseRecipe (pl : List Byte) (s : State) : Taken :=
  match recipeIndex pl 0 with
  | none => refused .range s
  | some i => if s.recipeProtected i then refused .inUse s else (okReply, s.setRecipe i none)

/-! ## The end of the settle (R60) -/

/-- The settle status becomes SETTLED. -/
def State.settle (s : State) : State := (s.modRps fun u => { u with settle := .settled }).finish

/-- SETTLED (R60). -/
def execSettled (s : State) : Result := whenDue s.settleDue State.settle s

/-! ## The station map (R9) -/

/-- The thirteen values of a SET_GEOMETRY request, with g and w clamped (R9, R200). -/
def requestMap (pl : List Byte) : StationMap where
  pf := wordAt pl 0
  z1in := wordAt pl 2
  z1out := wordAt pl 4
  z2in := wordAt pl 6
  z2out := wordAt pl 8
  z3in := wordAt pl 10
  z3out := wordAt pl 12
  pp := wordAt pl 14
  pc := wordAt pl 16
  pm := wordAt pl 18
  g := clampNat 0 1000 (wordAt pl 20)
  px := wordAt pl 22
  w := clampNat 20 500 (wordAt pl 24)

/-- The constraints of R9. -/
def StationMap.sound (m : StationMap) : Bool :=
  decide (0 < m.pf) && decide (m.pf < m.z1in) && decide (m.z1in < m.z1out) && decide (m.z1out ≤ m.z2in) &&
  decide (m.z2in < m.z2out) && decide (m.z2out ≤ m.z3in) && decide (m.z3in < m.z3out) && decide (m.z3out ≤ m.pp) &&
  decide (6000 ≤ m.pp) && decide ((m.pp : Int) < m.waveIn) && decide (m.pc < m.pm) &&
  decide (m.waveOut < (m.px : Int)) && decide (m.px ≤ 60000)

/-- g or w of a request was clamped. -/
def mapClamped (pl : List Byte) : Bool := (requestMap pl).g != wordAt pl 20 || (requestMap pl).w != wordAt pl 24

/-- SET_GEOMETRY (R9). -/
def cmdSetGeometry (pl : List Byte) (s : State) : Taken :=
  if !s.ctr.table.isEmpty then refused .state s
  else if !(requestMap pl).sound then refused .range s
  else (clampReply (mapClamped pl) [], s.modCtr fun c => { c with map := requestMap pl, mapValid := true })

end Sys2Proof.Machine
end

