-- ==== Sys2Proof/Machine/Control.lean ====
section
/-! DEFINITION. The emergency stop and the commands of the Process State Controller (Section 9), with ACK_TRACK (R13),
SILENCE (R188) and the blinking of the alarm lines (R186). -/

namespace Sys2Proof.Machine

/-! ## ESTOP_N (R173) -/

/-- The taken level of ESTOP_N changes; active is a trip-class condition. -/
def State.takeEstop (active : Bool) (s : State) : State :=
  let taken := s.modPsc fun u => { u with estop := active }
  (if active then taken.tripBegins .estop else taken).finish

/-- ESTOP_N_CHANGE (R173). -/
def execEstopChange (active : Bool) (s : State) : Result :=
  whenDue (s.psc.estop != active) (State.takeEstop active) (s.modPins fun p => { p with estopActive := active })

/-! ## WARM and COOL (R174, R175) -/

/-- Check 2 of WARM: extraction proven and not lost. -/
def State.extractionReady (s : State) : Bool := s.extractionProven && !s.extractionLost

/-- Check 3 of WARM. -/
def State.warmReady (s : State) : Bool := !s.heaterFault && s.mainsPresent && !s.conditions.trip

/-- WARM (R174); every state but STANDBY is refused by its availability. -/
def cmdWarm (s : State) : Taken :=
  if s.rps.active.isNone then refused .noProfile s
  else if !s.extractionReady then refused .extraction s
  else if !s.warmReady then refused .notReady s
  else (okReply, s.enterWarming.finish)

/-- COOL (R175); RUN, DRAIN, HOLD and TRIP are refused by its availability. -/
def cmdCool (s : State) : Taken :=
  if s.psc.state == .standby then (okReply, s) else (okReply, s.enterStandby.finish)

/-! ## START and STOP (R176, R177) -/

/-- START (R176); only READY and RUN are available. -/
def cmdStart (s : State) : Taken :=
  if s.psc.state == .run then (okReply, s)
  else if s.startGate.all id then (okReply, (s.goTo .run).finish)
  else refused .notReady s

/-- STOP (R177, R178); only RUN, DRAIN and HOLD are available. -/
def cmdStop (s : State) : Taken := (okReply, s.drainBegins.finish)

/-! ## HOLD and RESUME (R178, R179) -/

/-- HOLD (R178); only RUN, DRAIN and HOLD are available. -/
def cmdHold (s : State) : Taken := (okReply, s.holdBegins.finish)

/-- The change from HOLDING to RESUMING (R179, R129). -/
def State.beginResuming (prior : Prior) (s : State) : State := ((s.setState (.hold .resuming prior)).resumeWave).finish

/-- RESUME (R179); every state but HOLD is refused by its availability. -/
def cmdResume (s : State) : Taken :=
  match s.psc.state with
  | .hold .holding prior =>
    if s.anyPumpFault || s.ctr.trackAlert then refused .notReady s else (okReply, s.beginResuming prior)
  | _ => (okReply, s)

/-! ## TRIP and CLEAR (R181, R182) -/

/-- TRIP (R181). -/
def cmdTrip (s : State) : Taken := (okReply, (s.tripBegins .command).finish)

/-- CLEAR is refused (R182). -/
def State.clearRefused (s : State) : Bool := s.psc.estop || !s.mainsPresent || allChannels.any s.aboveLimit

/-- CLEAR (R182); every state but TRIP is refused by its availability. -/
def cmdClear (s : State) : Taken :=
  if s.clearRefused then refused .notReady s else (okReply, s.enterStandby.finish)

/-! ## ACK_TRACK and SILENCE (R13, R188) -/

/-- TRACK_ALERT cleared. -/
def State.ackTrack (s : State) : State := (s.modCtr fun c => { c with trackAlert := false }).followAlarms

/-- ACK_TRACK (R13). -/
def cmdAckTrack (s : State) : Taken := (okReply, s.ackTrack)

/-- A line SILENCED where it is silenceable. -/
def LineState.silence (p : LineParams) (l : LineState) : LineState :=
  if p.silenceable then { l with silenced := true } else l

/-- Every silenceable line SILENCED (R188). -/
def State.silence (s : State) : State :=
  (s.modAou fun u => { u with lines :=
    ⟨u.lines.alm1.silence s.params.lines.alm1, u.lines.alm2.silence s.params.lines.alm2⟩ }).followAlarms

/-- SILENCE (R188). -/
def cmdSilence (s : State) : Taken := (okReply, s.silence)

/-- ALARM_BLINK_PHASE (R186) at a multiple of 250 ms. -/
def execAlarmBlinkPhase (s : State) : Result := whenDue (s.atMultiple 250) State.followAlarms s

end Sys2Proof.Machine
end

