-- ==== Sys2Proof/Machine/FluxEvents.lean ====
section
/-! DEFINITION. The events and commands of the Flux Dosing Unit (Section 4). -/

namespace Sys2Proof.Machine

/-! ## The valve pulse generators (R66, R67) -/

/-- The on time of lane `l`'s pulse has run out. -/
def State.onEnded (s : State) (l : Fin 8) : Bool :=
  match (s.fdu.lanes[l]).gen with
  | .on 0 _ => true
  | _ => false

/-- VALVE_ON_END (R66): the valve closes and HOLDOFF begins. -/
def execValveOnEnd (l : Fin 8) (s : State) : Result := whenDue (s.onEnded l) (State.modLane l Lane.endOn) s

/-- The off time of lane `l` has run out. -/
def State.holdoffEnded (s : State) (l : Fin 8) : Bool := (s.fdu.lanes[l]).gen == .holdoff 0

/-- The generator becomes IDLE and starts a pulse that is owed (R66, R67). -/
def State.endHoldoff (l : Fin 8) (s : State) : State :=
  ((s.modLane l fun u => { u with gen := .idle }).startPulse l).followAlarms

/-- HOLDOFF_END (R66). -/
def execHoldoffEnd (l : Fin 8) (s : State) : Result := whenDue (s.holdoffEnded l) (State.endHoldoff l) s

/-! ## Supply pressure (R77, R78) -/

/-- A checked invalid sample adds SENSOR_FAULT after a sample that was valid or not checked (R77). -/
def State.pressureFaults (s : State) (v : Sample Nat) : Bool :=
  s.psc.state.checksFlux && !v.isValid && (s.fdu.pressure.isValid || !s.fdu.checked)

/-- The qualify count after a sample: held at 0 at a sample that is not checked (R77, R78). -/
def State.nextQualify (s : State) (v : Sample Nat) : Nat :=
  if s.psc.state.checksFlux && s.params.outOfBand v then s.fdu.qualify + 1 else 0

/-- A sample of FLUX_P becomes the latest (R77). -/
def State.takePressure (v : Sample Nat) (s : State) : State :=
  let taken := s.modFdu fun u =>
    { u with pressure := v, checked := s.psc.state.checksFlux, qualify := s.nextQualify v }
  if s.pressureFaults v then taken.addIncident .sensorFault (some .fluxP) none none else taken

/-- FLUX_PRESSURE_SAMPLE (R77) at a multiple of 100 ms. Where one invalid sample adds both, SENSOR_FAULT (R77) comes before
FLUX_PRESSURE (R78) (DESIGN CHOICE, notes/assumptions/58.md). -/
def execFluxPressureSample (current : Nat) (s : State) : Result :=
  whenDue (s.atMultiple 100)
    (fun s => ((s.takePressure (currentSample 600 current)).latchFluxPressure).finish) s

/-- FLUX_PRESSURE is clear with the qualify count at 5 or more (R78). -/
def State.pressureDue (s : State) : Bool := !s.fdu.fluxPressure && decide (Config.pressureCount ≤ s.fdu.qualify)

/-- FLUX_PRESSURE (R78). -/
def execFluxPressure (s : State) : Result := whenDue s.pressureDue (fun s => s.latchFluxPressure.finish) s

/-! ## Commands (R65, R79, R80) -/

/-- The enable byte of SET_NOZZLE: ENABLED is 0 and DISABLED 1 (R65, Table 4.1, R205). -/
def requestEnable (b : Nat) : Option Bool :=
  match b with
  | 0 => some true
  | 1 => some false
  | _ => none

/-- A nozzle record clamped to the ranges of Table 4.1. -/
def Nozzle.clamped (n : Nozzle) : Nozzle :=
  { n with
    quantum := clampNat 10 250 n.quantum
    onTime := clampNat 5 50 n.onTime
    offTime := clampNat 5 50 n.offTime }

/-- The nozzle record of lane `l` replaced. -/
def State.setNozzle (l : Fin 8) (n : Nozzle) (s : State) : State :=
  s.modFdu fun u => { u with nozzles := u.nozzles.set l n }

/-- SET_NOZZLE (R65); RUN, DRAIN and HOLD are refused by its availability. -/
def cmdSetNozzle (pl : List Byte) (s : State) : Taken :=
  match indexOf 8 (byteAt pl 0), requestEnable (byteAt pl 2) with
  | some l, some e =>
    let given : Nozzle := ⟨byteAt pl 1, e, byteAt pl 3, byteAt pl 4⟩
    if 0 < (s.fdu.lanes[l]).owed then refused .inUse s
    else (clampReply (given.clamped != given) [], s.setNozzle l given.clamped)
  | _, _ => refused .range s

/-- The reservoir estimate replaced by a quantity in µl (R80). -/
def State.refill (ul : Nat) (s : State) : State :=
  ((s.modFdu fun u => { u with reservoir := ul * 1000 }).checkReservoir).followAlarms

/-- REFILL_FLUX (R80). -/
def cmdRefillFlux (pl : List Byte) (s : State) : Taken :=
  (clampReply (decide (4000000 < longAt pl 0)) [], s.refill (clampNat 0 4000000 (longAt pl 0)))

/-- FLUX_PRESSURE and RESERVOIR_LOW cleared, the qualify count 0 (R79). -/
def State.ackFlux (s : State) : State :=
  (s.modFdu fun u => { u with fluxPressure := false, reservoirLow := false, qualify := 0 }).finish

/-- ACK_FLUX (R79). -/
def cmdAckFlux (s : State) : Taken := (okReply, s.ackFlux)

end Sys2Proof.Machine
end

