-- ==== Sys2Proof/Machine/HeaterEvents.lean ====
section
/-! DEFINITION. The events and commands of the Heater Control Unit (Section 5). -/

namespace Sys2Proof.Machine

/-! ## Samples and the latches they make (R92, R104 to R106) -/

/-- What a new TC_OPEN means for the process state: drain-class on a zone, trip-class on POT (R105). -/
def State.tcOpenBegins (c : Channel) (s : State) : State :=
  match c with
  | .pot => s.tripBegins .tcOpenPot
  | .z1 => s.drainBegins
  | .z2 => s.drainBegins
  | .z3 => s.drainBegins

/-- The conditions that begin between `before` and this state on channel `c`. -/
def State.heaterBegins (c : Channel) (before s : State) : State :=
  let drained :=
    if (s.hcu.ch.get c).tcOpen && !(before.hcu.ch.get c).tcOpen then s.tcOpenBegins c else s
  if (s.hcu.ch.get c).overtemp && !(before.hcu.ch.get c).overtemp then drained.tripBegins (.overtemp c) else drained

/-- The control computation where the sample is valid (R94). -/
def State.controlSample (c : Channel) (s : State) : State :=
  match (s.hcu.ch.get c).sample with
  | .valid t => s.control c t
  | _ => s

/-- The POT sample is delivered to the WPU, whose loss of POT_MOLTEN abandons a measurement (R116, R117, R143). -/
def State.deliverPot (c : Channel) (s : State) : State :=
  match c with
  | .pot => s.takePot.watchProbe
  | _ => s

/-- One sample of channel `c` within the HCU: latest sample, TC_OPEN, OVERTEMP, marks, control (R92). -/
def State.sampleChannel (c : Channel) (v : Sample Int) (s : State) : State :=
  let taken := s.modCh c (Heater.take s.params.overtempMargin (s.params.gains.get c).pmax s.params.holdLimit v)
  ((((taken.latchTcOpen c).scanOvertemp c).markSample c).controlSample c)

/-- One sample of channel `c` with its consequences. -/
def State.takeSample (c : Channel) (v : Sample Int) (s : State) : State :=
  (State.heaterBegins c s ((s.sampleChannel c v).deliverPot c)).finish

/-- TC_SAMPLE (R92) at a multiple of 250 ms. -/
def execTcSample (c : Channel) (conv : Option Int) (s : State) : Result :=
  whenDue (s.atMultiple 250) (State.takeSample c (conversion conv)) s

/-- TC_OPEN is clear with the third consecutive invalid sample taken (R104). -/
def State.tcOpenDue (s : State) (c : Channel) : Bool :=
  !(s.hcu.ch.get c).tcOpen && decide (Config.tcOpenCount ≤ (s.hcu.ch.get c).invalid)

/-- The latch of TC_OPEN on POT ends POT_MOLTEN (R117). -/
def State.tcOpenAtPot (c : Channel) (s : State) : State :=
  match c with
  | .pot => (s.loseMelt none).watchProbe
  | _ => s

/-- TC_OPEN latches on channel `c` with its consequences. -/
def State.openChannel (c : Channel) (s : State) : State :=
  (State.heaterBegins c s ((s.latchTcOpen c).tcOpenAtPot c)).finish

/-- TC_OPEN (R104). -/
def execTcOpen (c : Channel) (s : State) : Result := whenDue (s.tcOpenDue c) (State.openChannel c) s

/-! ## Mains (R98, R103) -/

/-- An edge of ZC is taken, unless it comes less than 4 ms after the last half-cycle (R98). -/
def State.edgeTaken (s : State) : Bool := !(s.hcu.edgeSeen && decide (s.sinceHalf < Config.halfCycleMin))

/-- HALF_CYCLE (R98). -/
def execHalfCycle (s : State) : Result := whenDue s.edgeTaken State.halfCycle s

/-- 25 ms have passed without a half-cycle and MAINS_SYNC is clear (R103). -/
def State.mainsDue (s : State) : Bool := !s.hcu.mainsSync && !s.mainsPresent

/-- MAINS_SYNC (R103). -/
def execMainsSync (s : State) : Result :=
  whenDue s.mainsDue (fun s => ((s.latchMains).tripBegins .mainsSync).finish) s

/-! ## Pyrometer and park time (R111, R113) -/

/-- PYRO_SAMPLE (R111) at a multiple of 10 ms. -/
def execPyroSample (current : Nat) (s : State) : Result :=
  whenDue (s.atMultiple 10) (State.modHcu fun u => { u with pyro := pyroSample current }) s

/-- PARK_TIME_TICK (R113) at a multiple of 100 ms in HOLD. -/
def execParkTimeTick (s : State) : Result := whenDue (s.atMultiple 100 && s.psc.state.isHold) State.parkTick s

/-! ## ACK_HEATER (R107) -/

/-- The acknowledgement of a channel is refused. -/
def State.ackRefused (s : State) (c : Channel) : Bool :=
  ((s.hcu.ch.get c).tcOpen && !(s.hcu.ch.get c).sample.isValid) ||
    ((s.hcu.ch.get c).overtemp && s.overtempPersists c)

/-- Both flags of a channel cleared. -/
def State.clearChannel (c : Channel) (s : State) : State :=
  (s.modCh c fun u => { u with tcOpen := false, overtemp := false }).finish

/-- MAINS_SYNC cleared. -/
def State.clearMains (s : State) : State := (s.modHcu fun u => { u with mainsSync := false }).finish

def ackChannel (c : Channel) (s : State) : Taken :=
  if s.ackRefused c then refused .state s else (okReply, s.clearChannel c)

/-- The subject of ACK_HEATER: 0 to 3 for Z1 to POT (R200). R107 refuses MAINS with STATE while mains sync is not present and
answers OK to the acknowledgement of a clear flag; where both apply the model answers STATE (DESIGN CHOICE,
notes/assumptions/50.md). -/
def cmdAckHeater (pl : List Byte) (s : State) : Taken :=
  match byteAt pl 0 with
  | 0 => ackChannel .z1 s
  | 1 => ackChannel .z2 s
  | 2 => ackChannel .z3 s
  | 3 => ackChannel .pot s
  | 4 => if s.mainsPresent then (okReply, s.clearMains) else refused .state s
  | _ => refused .range s

end Sys2Proof.Machine
end

