-- ==== Sys2Proof/Machine/HoodEvents.lean ====
section
/-! DEFINITION. The events and commands of the Extraction Monitor (Section 8). -/

namespace Sys2Proof.Machine

/-! ## A sample and its counts (R153, R154, R157) -/

/-- The pressure of a sample for every comparison: 0 Pa where it is invalid (R153). -/
def pressureOf (v : Sample Nat) : Nat :=
  match v with
  | .valid p => p
  | _ => 0

/-- A count of Table 8.2: raised, saturating, or 0. -/
def hoodCount (rises : Bool) (n : Nat) : Nat := if rises then min (n + 1) Config.hoodCountMax else 0

/-- Hood `h` is sampled under supervision: it is enabled, and the process state is supervised. -/
def State.watches (s : State) (h : Hood) : Bool := (s.hoodParams h).enabled && s.psc.state.supervised

/-- A hood after a sample, before its latches: the latest sample, the counts and the hold-off (R157), and the parameters that
apply from this sample (R155). -/
def HoodState.sample (hp : HoodParams) (proveTime : Nat) (supervised : Bool) (v : Sample Nat) (fan : Bool)
    (u : HoodState) : HoodState :=
  let p := pressureOf v
  let counted := hp.enabled && supervised
  { u with
    pressure := v
    fan := fan
    supervised := supervised
    warn := hoodCount (counted && decide (p < hp.pw)) u.warn
    loss := hoodCount (counted && decide (p < hp.pa)) u.loss
    fanOff := hoodCount (counted && !fan) u.fanOff
    good := if hp.enabled then hoodCount (decide (hp.pw ≤ p) && fan) u.good else u.good
    holdOff := u.holdOff - 1
    qualify := hp.qualify
    proveTime := proveTime
    grace := hp.grace }

/-- A supervised invalid sample of an enabled hood adds SENSOR_FAULT after a valid or unsupervised one (R154). -/
def State.hoodFaults (s : State) (h : Hood) (v : Sample Nat) : Bool :=
  s.watches h && !v.isValid && ((s.exm.hoods.get h).pressure.isValid || !(s.exm.hoods.get h).supervised)

/-- A sample of hood `h` taken. -/
def State.takeHood (h : Hood) (v : Sample Nat) (fan : Bool) (s : State) : State :=
  let taken := s.modHood h (HoodState.sample (s.hoodParams h) s.params.proveTime s.psc.state.supervised v fan)
  if s.hoodFaults h v then taken.addIncident .sensorFault (some (.hood h)) none none else taken

/-! ## The latches (R158) -/

/-- The qualify time in force on a hood, in samples (R155). -/
def State.qualifySamples (s : State) (h : Hood) : Nat := (s.exm.hoods.get h).qualify * 10

/-- The three flags may latch: an enabled hood under supervision with its hold-off at 0. -/
def State.mayLatch (s : State) (h : Hood) : Bool := s.watches h && (s.exm.hoods.get h).holdOff == 0

/-- FAN_STOP is due (R158, 1). -/
def State.fanStopDue (s : State) (h : Hood) : Bool :=
  s.mayLatch h && !(s.exm.hoods.get h).fanStop && decide (Config.fanStopCount ≤ (s.exm.hoods.get h).fanOff)

/-- FLOW_LOSS is due (R158, 2). -/
def State.flowLossDue (s : State) (h : Hood) : Bool :=
  s.mayLatch h && !(s.exm.hoods.get h).flowLoss && !(s.exm.hoods.get h).fanStop &&
    decide (s.qualifySamples h ≤ (s.exm.hoods.get h).loss)

/-- FLOW_WARN is due (R158, 3). -/
def State.flowWarnDue (s : State) (h : Hood) : Bool :=
  s.mayLatch h && !(s.exm.hoods.get h).flowWarn && !(s.exm.hoods.get h).lost &&
    decide (s.qualifySamples h ≤ (s.exm.hoods.get h).warn)

/-- EXTRACTION_EVENT on every record in the table (R166). -/
def State.markExtraction (s : State) : State :=
  s.modRecords (fun _ => true) (BoardRecord.flag fun f => { f with extractionEvent := true })

/-- The pressure of a hood's latest sample, as the value of FLOW_LOSS and FLOW_WARN: 0 where that sample is invalid (DESIGN
CHOICE, notes/assumptions/60.md). -/
def State.hoodValue (s : State) (h : Hood) : Option Word :=
  valueOf ((pressureOf (s.exm.hoods.get h).pressure : Nat) : Int)

def State.latchFanStop (h : Hood) (s : State) : State :=
  if s.fanStopDue h then
    (((s.modHood h fun u => { u with fanStop := true, flowLoss := false, flowWarn := false }).addIncident .fanStop
      (some (.hood h)) none none).newLatch .extraction).markExtraction
  else s

def State.latchFlowLoss (h : Hood) (s : State) : State :=
  if s.flowLossDue h then
    (((s.modHood h fun u => { u with flowLoss := true, flowWarn := false }).addIncident .flowLoss
      (some (.hood h)) none (s.hoodValue h)).newLatch .extraction).markExtraction
  else s

def State.latchFlowWarn (h : Hood) (s : State) : State :=
  if s.flowWarnDue h then
    ((s.modHood h fun u => { u with flowWarn := true }).addIncident .flowWarn
      (some (.hood h)) none (s.hoodValue h)).newLatch .extraction
  else s

/-! ## Loss-active, proven and escalation (R160, R162, R165) -/

/-- The loss-active status after a supervised sample (R160). -/
def State.lossAfter (s : State) (h : Hood) : Bool :=
  let u := s.exm.hoods.get h
  if u.lossActive then !decide (s.qualifySamples h ≤ u.good)
  else decide (s.qualifySamples h ≤ u.loss) || decide (Config.fanStopCount ≤ u.fanOff)

def State.followLoss (h : Hood) (s : State) : State :=
  if s.watches h then s.modHood h fun u => { u with lossActive := s.lossAfter h } else s

/-- A hood is proven: disabled, or its good count at the prove time (R162). -/
def State.provenNow (s : State) (h : Hood) : Bool :=
  !(s.hoodParams h).enabled || decide ((s.exm.hoods.get h).proveTime * 10 ≤ (s.exm.hoods.get h).good)

def State.followProven (h : Hood) (s : State) : State := s.modHood h fun u => { u with proven := s.provenNow h }

/-- The grace in force on a hood, in ms (R155). -/
def State.graceMs (s : State) (h : Hood) : Nat := (s.exm.hoods.get h).grace * 1000

/-- The escalation timer after a sample (R165, R167). -/
def State.timerAfter (s : State) (h : Hood) : Nat :=
  let u := s.exm.hoods.get h
  if s.watches h && (s.hoodParams h).policy == .drainThenTrip && (u.lossActive || u.lost) then
    min (u.timer + 100) (s.graceMs h)
  else 0

def State.followTimer (h : Hood) (s : State) : State := s.modHood h fun u => { u with timer := s.timerAfter h }

/-- EXTRACTION_ESCALATED is due (R165). -/
def State.escalationDue (s : State) (h : Hood) : Bool :=
  s.mayLatch h && (s.hoodParams h).policy == .drainThenTrip && !(s.exm.hoods.get h).escalated &&
    decide (s.graceMs h ≤ (s.exm.hoods.get h).timer)

def State.latchEscalation (h : Hood) (s : State) : State :=
  if s.escalationDue h then
    ((s.modHood h fun u => { u with escalated := true }).addIncident .extractionEscalated (some (.hood h)) none
      (valueOf (((s.exm.hoods.get h).timer : Nat) : Int))).newLatch .extraction
  else s

/-! ## Consequences (R163, R165, R172) -/

/-- The conditions of the hoods that begin between `before` and this state: hood `h`'s escalation, the trip-class and the
drain-class condition of a lost hood. -/
def State.hoodBegins (h : Hood) (before s : State) : State :=
  let drained :=
    if s.conditions.hoodDrain && !before.conditions.hoodDrain then s.drainBegins else s
  let tripped :=
    if s.conditions.hoodTrip && !before.conditions.hoodTrip then drained.tripBegins (.hoodTrip h) else drained
  if (s.exm.hoods.get h).escalated && !(before.exm.hoods.get h).escalated then tripped.tripBegins (.escalated h)
  else tripped

/-- The latches of R158 at a sample, in order. -/
def State.latchHood (h : Hood) (s : State) : State := ((s.latchFanStop h).latchFlowLoss h).latchFlowWarn h

/-- A sample of hood `h` within the EXM; its SENSOR_FAULT is added before the incidents of the latches (DESIGN CHOICE,
notes/assumptions/58.md). -/
def State.sampleHood (h : Hood) (v : Sample Nat) (fan : Bool) (s : State) : State :=
  ((((((s.takeHood h v fan).latchHood h).followLoss h).followProven h).followTimer h).latchEscalation h)

/-- HOOD_SAMPLE (R153) at a multiple of 100 ms. -/
def execHoodSample (h : Hood) (current : Nat) (fan : Bool) (s : State) : Result :=
  whenDue (s.atMultiple 100)
    (fun s => (State.hoodBegins h s (s.sampleHood h (currentSample 1500 current) fan)).finish) s

/-- FAN_STOP (R158). -/
def execFanStop (h : Hood) (s : State) : Result :=
  whenDue (s.fanStopDue h) (fun s => (State.hoodBegins h s (s.latchFanStop h)).finish) s

/-- FLOW_LOSS (R158). -/
def execFlowLoss (h : Hood) (s : State) : Result :=
  whenDue (s.flowLossDue h) (fun s => (State.hoodBegins h s (s.latchFlowLoss h)).finish) s

/-- FLOW_WARN (R158); it has no consequence beyond the alarm lines and the reads (R159). -/
def execFlowWarn (h : Hood) (s : State) : Result :=
  whenDue (s.flowWarnDue h) (fun s => (s.latchFlowWarn h).followAlarms) s

/-- A loss-active hood has been good for its qualify time (R160). -/
def State.recoveryDue (s : State) (h : Hood) : Bool :=
  s.watches h && (s.exm.hoods.get h).lossActive && decide (s.qualifySamples h ≤ (s.exm.hoods.get h).good)

/-- HOOD_RECOVERY (R160). -/
def execHoodRecovery (h : Hood) (s : State) : Result :=
  whenDue (s.recoveryDue h) (State.modHood h fun u => { u with lossActive := false }) s

/-- An enabled hood that is not proven has been good for the prove time (R162). -/
def State.provenDue (s : State) (h : Hood) : Bool := !(s.exm.hoods.get h).proven && s.provenNow h

/-- HOOD_PROVEN (R162). -/
def execHoodProven (h : Hood) (s : State) : Result :=
  whenDue (s.provenDue h) (State.modHood h fun u => { u with proven := true }) s

/-- EXTRACTION_ESCALATED (R165). -/
def execExtractionEscalated (h : Hood) (s : State) : Result :=
  whenDue (s.escalationDue h) (fun s => (State.hoodBegins h s (s.latchEscalation h)).finish) s

/-! ## ACK_HOOD (R161) -/

/-- The hood of a number (Section 8). -/
def hoodAt (n : Nat) : Option Hood :=
  match n with
  | 0 => some .flux
  | 1 => some .preheat
  | 2 => some .wave
  | _ => none

/-- The flags of a hood cleared, its hold-off set, and its escalation timer 0 when it is not loss-active (R161, R165). -/
def HoodState.acknowledge (holdOff : Nat) (u : HoodState) : HoodState :=
  { u with
    flowWarn := false, flowLoss := false, fanStop := false, escalated := false, holdOff := holdOff
    timer := if u.lossActive then u.timer else 0 }

/-- ACK_HOOD on hood `h`. R161 makes the hold-off the qualify time × 10, which is no comparison; the model takes the qualify
time as it stands at the command (DESIGN CHOICE, notes/assumptions/54.md). -/
def State.ackHood (h : Hood) (s : State) : State :=
  (s.modHood h (HoodState.acknowledge ((s.hoodParams h).qualify * 10))).finish

def cmdAckHood (pl : List Byte) (s : State) : Taken :=
  match hoodAt (byteAt pl 0) with
  | some h => (okReply, s.ackHood h)
  | none => refused .range s

end Sys2Proof.Machine
end

