-- ==== Sys2Proof/Machine/LevelEvents.lean ====
section
/-! DEFINITION. The events and commands of the Level Unit (Section 7). -/

namespace Sys2Proof.Machine

/-! ## Scheduling (R140, R142) -/

/-- A running level interval timer stands at or past the level interval. -/
def State.intervalDue (s : State) : Bool :=
  match s.lvu.interval with
  | some n => decide (s.params.levelInterval * 1000 ≤ n)
  | none => false

/-- The interval timer becomes idle and a request pending (R140). -/
def State.endInterval (s : State) : State := (s.modLvu fun u => { u with interval := none }).raiseRequest

/-- LEVEL_INTERVAL_EXPIRY (R140). -/
def execLevelIntervalExpiry (s : State) : Result := whenDue s.intervalDue State.endInterval s

/-- The pending request has reached the deferral limit with LEVEL_GAP released (R142). -/
def State.gapDue (s : State) : Bool :=
  s.atMultiple 100 && s.lvu.request.isSome && !s.lvu.gap && decide (s.params.deferral * 1000 ≤ s.requestAge)

/-- LEVEL_GAP is asserted with its incident (R142). -/
def State.assertGap (s : State) : State :=
  ((s.modLvu fun u => { u with gap := true }).addIncident .levelGap none none
    (valueOf ((s.requestAge : Nat) : Int))).finish

/-- LEVEL_GAP (R142) at a multiple of 100 ms. -/
def execLevelGap (s : State) : Result := whenDue s.gapDue State.assertGap s

/-! ## The probe cycle (R135 to R137, R141, R144) -/

/-- The level of PRB_HOME at an event of the probe. -/
def State.readHome (home : Bool) (s : State) : State := s.modPins fun p => { p with probeHome := home }

/-- The start conditions are evaluated now and hold: at a multiple of 100 ms, or after an advance (R141). -/
def State.measureDue (s : State) : Bool := (s.atMultiple 100 || s.lvu.startDue) && s.mayMeasure

/-- A measurement starts: contact at home is a fault, otherwise the descent begins (R136). -/
def State.beginMeasurement (contact : Bool) (s : State) : State :=
  if contact then (s.probeFaults .contactAtStart).finish else s.startDescent

/-- MEASUREMENT_START (R141). -/
def execMeasurementStart (contact home : Bool) (s : State) : Result :=
  whenDue s.measureDue (State.beginMeasurement contact) (s.readHome home)

/-- The time for the next probe step has come (R135). -/
def State.stepDue (s : State) : Bool := decide (Config.probePace ≤ s.lvu.pace)

/-- PRB_CONT as read after a down step (R136). -/
def State.readContact (contact : Bool) (s : State) : State :=
  s.modLvu fun u =>
    if contact then { u with probe := .contact, contactTimer := 0, unread := false } else { u with unread := false }

/-- 600 down steps without contact (R136). -/
def State.noContact (s : State) : State := ((s.probeFaults .noContact).startAscent false).finish

/-- One more probe step in the present direction. -/
def State.probeStep (s : State) : State := s.modLvu fun u => { u with steps := u.steps + 1, pace := 0, unread := false }

/-- The next down step when its time has come, and the reading after it; before that time, the reading after the first step
of the descent, if it is still to come (R136). Contact at the time of a 601st step is taken as contact (DESIGN CHOICE,
notes/assumptions/11.md). -/
def State.downStep (contact : Bool) (s : State) : State :=
  if s.stepDue then
    if s.lvu.steps < Config.downStepsMax then s.probeStep.readContact contact
    else if contact then s.readContact true
    else s.noContact
  else if s.lvu.unread then s.readContact contact
  else s

/-- PROBE_DOWN_STEP (R136). -/
def execProbeDownStep (contact home : Bool) (s : State) : Result :=
  whenDue (s.lvu.probe == .descending) (State.downStep contact) (s.readHome home)

/-- Contact has not yet persisted for 20 ms. -/
def State.contactShort (s : State) : Bool := s.lvu.probe == .contact && decide (s.lvu.contactTimer < Config.contactHold)

/-- PROBE_CONTACT_LOST (R136): back to DESCENDING, the next step 2 ms later. -/
def execProbeContactLost (s : State) : Result :=
  whenDue s.contactShort (State.modLvu fun u => { u with
    probe := .descending, contactTimer := 0, pace := 0, unread := false }) s

/-- Contact has persisted for 20 ms (R136). -/
def State.resultDue (s : State) : Bool := s.lvu.probe == .contact && decide (Config.contactHold ≤ s.lvu.contactTimer)

/-- The result with its consequences: a new LEVEL_CRITICAL is a drain-class condition (R144). -/
def State.levelResult (s : State) : State :=
  (if s.takeLevel.lvu.critical && !s.lvu.critical then s.takeLevel.drainBegins else s.takeLevel).finish

/-- LEVEL_RESULT (R144). -/
def execLevelResult (s : State) : Result := whenDue s.resultDue State.levelResult s

/-- 700 up steps without home (R137). -/
def State.noHome (s : State) : State :=
  ((s.modLvu fun u => { u with probe := .halted }).probeFaults .noHome).finish

/-- PRB_HOME as read after an up step: at home the probe parks (R137). -/
def State.readPark (s : State) : State :=
  if s.pins.probeHome then s.parkProbe.finish else s.modLvu fun u => { u with unread := false }

/-- The next up step when its time has come, and the reading after it; before that time, the reading after the first step of
the ascent, if it is still to come (R137). Home at the time of a 701st step is taken as home (DESIGN CHOICE,
notes/assumptions/11.md). -/
def State.upStep (s : State) : State :=
  if s.stepDue then
    if s.lvu.steps < Config.upStepsMax then s.probeStep.readPark
    else if s.pins.probeHome then s.readPark
    else s.noHome
  else if s.lvu.unread then s.readPark
  else s

/-- PROBE_UP_STEP (R137). -/
def execProbeUpStep (home : Bool) (s : State) : Result :=
  whenDue (s.lvu.probe == .ascending) State.upStep (s.readHome home)

/-! ## The feed (R147 to R149) -/

/-- Steps are still to give and the time for the next has come (R147). -/
def State.feedStepDue (s : State) : Bool :=
  match s.lvu.feeder with
  | .feeding (_ + 1) _ => decide (Config.feedPace ≤ s.lvu.feedPace)
  | _ => false

/-- One step of a feed given. -/
def Feeder.next : Feeder → Feeder
  | .feeding (n + 1) given => .feeding n (given + 1)
  | f => f

/-- FEED_STEP (R147). -/
def execFeedStep (s : State) : Result :=
  whenDue s.feedStepDue (State.modLvu fun u => { u with feeder := u.feeder.next, feedPace := 0 }) s

/-- 5 ms have passed after the last step (R147). -/
def State.feedEndDue (s : State) : Bool :=
  match s.lvu.feeder with
  | .feeding 0 _ => decide (Config.feedPace ≤ s.lvu.feedPace)
  | _ => false

/-- FEED_END (R147): the melt settle begins. -/
def execFeedEnd (s : State) : Result := whenDue s.feedEndDue State.stopFeed s

/-- The settle timer stands at or past the melt settle (R147). -/
def State.meltDue (s : State) : Bool :=
  s.lvu.feeder == .settling && decide (s.params.meltSettle * 1000 ≤ s.lvu.settleTimer)

/-- MELT_SETTLE_END (R147): the feeder becomes IDLE and a request pending. The settle timer's value once the melt settle has
ended is not stated; the model makes it 0 (DESIGN CHOICE, notes/assumptions/52.md). -/
def execMeltSettleEnd (s : State) : Result :=
  whenDue s.meltDue (fun s => (s.modLvu fun u => { u with feeder := .idle, settleTimer := 0 }).raiseRequest) s

/-- BUDGET_REFILL (R148) at a multiple of 60,000 ms. -/
def execBudgetRefill (s : State) : Result :=
  whenDue (s.atMultiple 60000)
    (State.modLvu fun u => { u with budget := min (u.budget + s.params.refill) s.params.budgetMax }) s

/-- WIRE_END has held active for 50 ms with WIRE_OUT clear (R149). -/
def State.wireDue (s : State) : Bool :=
  s.pins.wireEnd && !s.lvu.wireOut && decide (Config.wireHold ≤ s.lvu.wireTimer)

/-- WIRE_OUT (R149). -/
def execWireOut (s : State) : Result := whenDue s.wireDue (fun s => s.latchWire.followAlarms) s

/-! ## ACK_LEVEL (R145) -/

/-- The six flags cleared; the 50 ms of WIRE_OUT is counted afresh where it was latched (R145, R149). -/
def State.clearLevel (s : State) : State :=
  s.modLvu fun u => { u with
    high := false, low := false, critical := false, probeFault := false, feedBudget := false, wireOut := false
    wireTimer := if u.wireOut then 0 else u.wireTimer }

/-- What follows the clearing of PROBE_FAULT: a request at once, and a new ascent from HALTED (R145). -/
def State.afterProbeFault (s : State) : State :=
  if s.lvu.probe == .halted then s.raiseRequest.startAscent false else s.raiseRequest

/-- ACK_LEVEL (R145). -/
def State.ackLevel (s : State) : State :=
  (if s.lvu.probeFault then s.clearLevel.afterProbeFault else s.clearLevel).finish

def cmdAckLevel (s : State) : Taken := (okReply, s.ackLevel)

end Sys2Proof.Machine
end

