-- ==== Sys2Proof/Machine/PumpEvents.lean ====
section
/-! DEFINITION. The events and commands of the Wave Pump Unit (Section 6). -/

namespace Sys2Proof.Machine

/-! ## Events (R116, R119, R125) -/

/-- POT_MOLTEN_SET (R116): it acts on the POT sample of this instant alone. -/
def execPotMoltenSet (s : State) : Result := whenDue s.moltenDue (fun s => s.setMolten.finish) s

/-- PUMP_RAMP_STEP (R119) at a multiple of 100 ms. -/
def execPumpRampStep (s : State) : Result := whenDue (s.atMultiple 100) (fun s => s.rampStep.finish) s

/-- A pump's feedback input takes a new level, and its state is settled (R119, R125). -/
def PumpState.takeFeedback (present : Bool) (u : PumpState) : PumpState :=
  PumpState.settle { u with feedback := present, absent := if present then 0 else u.absent }

/-- The level of a pump's run feedback pin. -/
def State.feedbackPin (p : Pump) (present : Bool) (s : State) : State :=
  s.modPins fun u => match p with
    | .chip => { u with runChip := present }
    | .main => { u with runMain := present }

/-- PUMP_FEEDBACK_CHANGE (R119). -/
def execPumpFeedbackChange (p : Pump) (present : Bool) (s : State) : Result :=
  whenDue ((s.wpu.pumps.get p).feedback != present)
    (fun s => (s.modPump p (PumpState.takeFeedback present)).finish) (s.feedbackPin p present)

/-- A pump in COOLDOWN has stood for the minimum off time (R119). -/
def State.offDue (s : State) (p : Pump) : Bool :=
  (s.wpu.pumps.get p).stage == .cooldown && decide (s.params.minimumOff * 1000 ≤ (s.wpu.pumps.get p).minOff)

/-- The pump becomes OFF, and its start permission is evaluated (R119, R120). -/
def State.endCooldown (p : Pump) (s : State) : State :=
  ((s.modPump p fun u => { u with stage := .off }).startPump p).finish

/-- MINIMUM_OFF_EXPIRY (R119). -/
def execMinimumOffExpiry (p : Pump) (s : State) : Result := whenDue (s.offDue p) (State.endCooldown p) s

/-- A pump's feedback has been absent for 500 ms with its reference above 0 and PUMP_FAULT clear (R125). -/
def State.pumpFaultDue (s : State) (p : Pump) : Bool :=
  !(s.wpu.pumps.get p).fault && decide (0 < (s.wpu.pumps.get p).reference) && !(s.wpu.pumps.get p).feedback &&
    decide (Config.feedbackLimit ≤ (s.wpu.pumps.get p).absent)

/-- PUMP_FAULT latches on pump `p` with its consequences: the pumps are no longer steady, and the hold-class condition
begins (R125, R143, R178). -/
def State.faultPump (p : Pump) (s : State) : State := (((s.latchPump p).watchProbe).holdBegins).finish

/-- PUMP_FAULT (R125). -/
def execPumpFault (p : Pump) (s : State) : Result := whenDue (s.pumpFaultDue p) (State.faultPump p) s

/-! ## Commands (R121, R122, R126) -/

/-- The wave order is UP and each pump follows it (R121). -/
def State.waveUp (s : State) : State :=
  (((s.modWpu fun u => { u with orderUp := true }).raisePump .chip).raisePump .main).finish

/-- WAVE_UP (R121); STANDBY, HOLD and TRIP are refused by its availability. -/
def cmdWaveUp (s : State) : Taken := (okReply, s.waveUp)

/-- The wave order is DOWN, and the pumps in STARTING or RUNNING stop (R122). -/
def State.waveDown (s : State) : State :=
  (s.modWpu fun u => { u with
    orderUp := false, pumps := u.pumps.map (PumpState.stopFrom [.starting, .running]) }).finish

/-- WAVE_DOWN (R122); HOLD and TRIP are refused by its availability. -/
def cmdWaveDown (s : State) : Taken := (okReply, s.waveDown)

/-- PUMP_FAULT cleared on both pumps, and the start permission evaluated (R126). -/
def State.ackPump (s : State) : State :=
  ((s.modWpu fun u => { u with pumps := u.pumps.map fun p => { p with fault := false } }).startPumps).finish

/-- ACK_PUMP (R126). -/
def cmdAckPump (s : State) : Taken := (okReply, s.ackPump)

end Sys2Proof.Machine
end

