-- ==== Sys2Proof/Machine/Params.lean ====
section
/-! DEFINITION. The parameters (Table 11.5): SET_PARAM and READ_PARAM with the checks and effects that the owners' rules
give (R203). -/

namespace Sys2Proof.Machine

/-! ## The parameters and their indexes -/

/-- A parameter of Table 11.5 with its index. -/
inductive ParamId
  | stallTimeout | admitGrace | pMin | pMax | reservoirLow | fluxPolicy
  | kp (c : Channel) | ki (c : Channel) | pmax (c : Channel)
  | holdLimit | concurrency | overtempMargin | parkLimit
  | meltHold | ramp | minimumOff | idleSpeed
  | nNom | levelInterval | deferral | approach | levelH | levelT | levelW | levelC
  | feedGain | maxFeed | budgetMax | refill | meltSettle
  | hoodEnable (h : Hood) | pw (h : Hood) | pa (h : Hood) | qualify (h : Hood) | policy (h : Hood) | grace (h : Hood)
  | proveTime
  | classSet (l : Line) | mode (l : Line) | silenceable (l : Line)
  deriving DecidableEq, Repr

/-- The channel of an index (R91). -/
def channelAt (n : Nat) : Option Channel :=
  match n with
  | 0 => some .z1
  | 1 => some .z2
  | 2 => some .z3
  | 3 => some .pot
  | _ => none

/-- The alarm line of an index. -/
def lineAt (n : Nat) : Option Line :=
  match n with
  | 0 => some .alm1
  | 1 => some .alm2
  | _ => none

/-- A parameter without an index: its index is 0. -/
def plainParam (index : Nat) (p : ParamId) : Option ParamId := if index == 0 then some p else none

/-- The parameter of an identifier and an index, if Table 11.5 has it. -/
def paramOf (id index : Nat) : Option ParamId :=
  match id with
  | 1 => plainParam index .stallTimeout
  | 2 => plainParam index .admitGrace
  | 3 => plainParam index .pMin
  | 4 => plainParam index .pMax
  | 5 => plainParam index .reservoirLow
  | 6 => plainParam index .fluxPolicy
  | 7 => (channelAt index).map ParamId.kp
  | 8 => (channelAt index).map ParamId.ki
  | 9 => (channelAt index).map ParamId.pmax
  | 10 => plainParam index .holdLimit
  | 11 => plainParam index .concurrency
  | 12 => plainParam index .overtempMargin
  | 13 => plainParam index .parkLimit
  | 14 => plainParam index .meltHold
  | 15 => plainParam index .ramp
  | 16 => plainParam index .minimumOff
  | 17 => plainParam index .idleSpeed
  | 18 => plainParam index .nNom
  | 19 => plainParam index .levelInterval
  | 20 => plainParam index .deferral
  | 21 => plainParam index .approach
  | 22 => plainParam index .levelH
  | 23 => plainParam index .levelT
  | 24 => plainParam index .levelW
  | 25 => plainParam index .levelC
  | 26 => plainParam index .feedGain
  | 27 => plainParam index .maxFeed
  | 28 => plainParam index .budgetMax
  | 29 => plainParam index .refill
  | 30 => plainParam index .meltSettle
  | 31 => (hoodAt index).map ParamId.hoodEnable
  | 32 => (hoodAt index).map ParamId.pw
  | 33 => (hoodAt index).map ParamId.pa
  | 34 => (hoodAt index).map ParamId.qualify
  | 35 => (hoodAt index).map ParamId.policy
  | 36 => (hoodAt index).map ParamId.grace
  | 37 => plainParam index .proveTime
  | 38 => (lineAt index).map ParamId.classSet
  | 39 => (lineAt index).map ParamId.mode
  | 40 => (lineAt index).map ParamId.silenceable
  | _ => none

/-- The range of a parameter, or the codes of a coded one (Table 11.5). -/
def ParamId.range : ParamId → Int × Int
  | .stallTimeout => (500, 10000)
  | .admitGrace => (0, 1000)
  | .pMin => (0, 600)
  | .pMax => (0, 600)
  | .reservoirLow => (0, 4000000)
  | .fluxPolicy => (0, 1)
  | .kp _ => (0, 255)
  | .ki _ => (0, 255)
  | .pmax _ => (0, 1000)
  | .holdLimit => (0, 1000)
  | .concurrency => (1, 4)
  | .overtempMargin => (50, 500)
  | .parkLimit => (0, 600)
  | .meltHold => (30, 600)
  | .ramp => (50, 500)
  | .minimumOff => (1, 60)
  | .idleSpeed => (0, 400)
  | .nNom => (100, 500)
  | .levelInterval => (10, 600)
  | .deferral => (30, 300)
  | .approach => (0, 5000)
  | .levelH => (-600, 600)
  | .levelT => (-600, 600)
  | .levelW => (-600, 600)
  | .levelC => (-600, 600)
  | .feedGain => (1, 255)
  | .maxFeed => (1, 500)
  | .budgetMax => (0, 5000)
  | .refill => (0, 200)
  | .meltSettle => (10, 120)
  | .hoodEnable _ => (0, 1)
  | .pw _ => (0, 1500)
  | .pa _ => (0, 1500)
  | .qualify _ => (1, 30)
  | .grace _ => (60, 600)
  | .policy _ => (0, 4)
  | .proveTime => (5, 120)
  | .classSet _ => (0, 127)
  | .mode _ => (0, 2)
  | .silenceable _ => (0, 1)

/-- A parameter marked * in Table 11.5: a value outside its codes is refused. -/
def ParamId.coded : ParamId → Bool
  | .fluxPolicy => true
  | .hoodEnable _ => true
  | .policy _ => true
  | .classSet _ => true
  | .mode _ => true
  | .silenceable _ => true
  | _ => false

/-! ## Values as coded -/

def InhibitMode.code : InhibitMode → Nat
  | .cut => 0
  | .finish => 1

def inhibitModeAt (v : Int) : InhibitMode := if v == 0 then .cut else .finish

def Policy.code : Policy → Nat
  | .warnOnly => 0
  | .inhibitFlux => 1
  | .drain => 2
  | .drainThenTrip => 3
  | .trip => 4

def policyAt (v : Int) : Policy :=
  if v == 0 then .warnOnly else if v == 1 then .inhibitFlux else if v == 2 then .drain
  else if v == 3 then .drainThenTrip else .trip

def LineMode.code : LineMode → Nat
  | .steady => 0
  | .blink1Hz => 1
  | .blink2Hz => 2

def lineModeAt (v : Int) : LineMode := if v == 0 then .steady else if v == 1 then .blink1Hz else .blink2Hz

def boolCode (b : Bool) : Int := if b then 1 else 0

/-- The value of a parameter as coded. -/
def ParamId.get (k : ParamId) (p : Params) : Int :=
  match k with
  | .stallTimeout => p.stallTimeout
  | .admitGrace => p.admitGrace
  | .pMin => p.pMin
  | .pMax => p.pMax
  | .reservoirLow => p.reservoirLow
  | .fluxPolicy => p.fluxPolicy.code
  | .kp c => (p.gains.get c).kp
  | .ki c => (p.gains.get c).ki
  | .pmax c => (p.gains.get c).pmax
  | .holdLimit => p.holdLimit
  | .concurrency => p.concurrency
  | .overtempMargin => p.overtempMargin
  | .parkLimit => p.parkLimit
  | .meltHold => p.meltHold
  | .ramp => p.ramp
  | .minimumOff => p.minimumOff
  | .idleSpeed => p.idleSpeed
  | .nNom => p.nNom
  | .levelInterval => p.levelInterval
  | .deferral => p.deferral
  | .approach => p.approach
  | .levelH => p.levelH
  | .levelT => p.levelT
  | .levelW => p.levelW
  | .levelC => p.levelC
  | .feedGain => p.feedGain
  | .maxFeed => p.maxFeed
  | .budgetMax => p.budgetMax
  | .refill => p.refill
  | .meltSettle => p.meltSettle
  | .hoodEnable h => boolCode (p.hoods.get h).enabled
  | .pw h => (p.hoods.get h).pw
  | .pa h => (p.hoods.get h).pa
  | .qualify h => (p.hoods.get h).qualify
  | .grace h => (p.hoods.get h).grace
  | .policy h => (p.hoods.get h).policy.code
  | .proveTime => p.proveTime
  | .classSet l => (p.lines.get l).classes.toNat
  | .mode l => (p.lines.get l).mode.code
  | .silenceable l => boolCode (p.lines.get l).silenceable

def Params.modGains (c : Channel) (f : Gains → Gains) (p : Params) : Params :=
  { p with gains := p.gains.set c (f (p.gains.get c)) }

def Params.modHood (h : Hood) (f : HoodParams → HoodParams) (p : Params) : Params :=
  { p with hoods := p.hoods.set h (f (p.hoods.get h)) }

def Params.modLine (l : Line) (f : LineParams → LineParams) (p : Params) : Params :=
  { p with lines := p.lines.set l (f (p.lines.get l)) }

/-- A parameter takes a value as coded. -/
def ParamId.put (k : ParamId) (v : Int) (p : Params) : Params :=
  match k with
  | .stallTimeout => { p with stallTimeout := v.toNat }
  | .admitGrace => { p with admitGrace := v.toNat }
  | .pMin => { p with pMin := v.toNat }
  | .pMax => { p with pMax := v.toNat }
  | .reservoirLow => { p with reservoirLow := v.toNat }
  | .fluxPolicy => { p with fluxPolicy := inhibitModeAt v }
  | .kp c => p.modGains c fun g => { g with kp := v.toNat }
  | .ki c => p.modGains c fun g => { g with ki := v.toNat }
  | .pmax c => p.modGains c fun g => { g with pmax := v.toNat }
  | .holdLimit => { p with holdLimit := v.toNat }
  | .concurrency => { p with concurrency := v.toNat }
  | .overtempMargin => { p with overtempMargin := v.toNat }
  | .parkLimit => { p with parkLimit := v.toNat }
  | .meltHold => { p with meltHold := v.toNat }
  | .ramp => { p with ramp := v.toNat }
  | .minimumOff => { p with minimumOff := v.toNat }
  | .idleSpeed => { p with idleSpeed := v.toNat }
  | .nNom => { p with nNom := v.toNat }
  | .levelInterval => { p with levelInterval := v.toNat }
  | .deferral => { p with deferral := v.toNat }
  | .approach => { p with approach := v.toNat }
  | .levelH => { p with levelH := v }
  | .levelT => { p with levelT := v }
  | .levelW => { p with levelW := v }
  | .levelC => { p with levelC := v }
  | .feedGain => { p with feedGain := v.toNat }
  | .maxFeed => { p with maxFeed := v.toNat }
  | .budgetMax => { p with budgetMax := v.toNat }
  | .refill => { p with refill := v.toNat }
  | .meltSettle => { p with meltSettle := v.toNat }
  | .hoodEnable h => p.modHood h fun g => { g with enabled := v == 1 }
  | .pw h => p.modHood h fun g => { g with pw := v.toNat }
  | .pa h => p.modHood h fun g => { g with pa := v.toNat }
  | .qualify h => p.modHood h fun g => { g with qualify := v.toNat }
  | .grace h => p.modHood h fun g => { g with grace := v.toNat }
  | .policy h => p.modHood h fun g => { g with policy := policyAt v }
  | .proveTime => { p with proveTime := v.toNat }
  | .classSet l => p.modLine l fun g => { g with classes := BitVec.ofNat 7 v.toNat }
  | .mode l => p.modLine l fun g => { g with mode := lineModeAt v }
  | .silenceable l => p.modLine l fun g => { g with silenceable := v == 1 }

/-! ## The owners' refusals -/

/-- The thresholds stand in the order C < W < T < H (R139). -/
def Params.thresholdsOrdered (p : Params) : Bool :=
  decide (p.levelC < p.levelW) && decide (p.levelW < p.levelT) && decide (p.levelT < p.levelH)

/-- The owner's refusal of a SET_PARAM, `p` being the parameters it would leave (R78, R139, R155). -/
def ParamId.refusal (k : ParamId) (p : Params) (s : State) : Option Status :=
  match k with
  | .pMin => if p.pMax < p.pMin then some .range else none
  | .pMax => if p.pMax < p.pMin then some .range else none
  | .levelH => if p.thresholdsOrdered then none else some .range
  | .levelT => if p.thresholdsOrdered then none else some .range
  | .levelW => if p.thresholdsOrdered then none else some .range
  | .levelC => if p.thresholdsOrdered then none else some .range
  | .hoodEnable _ => if s.psc.state == .standby then none else some .state
  | .pw h => if (p.hoods.get h).pw ≤ (p.hoods.get h).pa then some .range else none
  | .pa h => if (p.hoods.get h).pw ≤ (p.hoods.get h).pa then some .range else none
  | _ => none

/-! ## The owners' effects -/

/-- A hood's state at a change of its enable (R156): DISABLED clears flags, loss-active, counts, hold-off and timer and
makes it proven; ENABLED starts every count from 0, so that it is not proven. -/
def HoodState.enableChanged (enabled : Bool) (u : HoodState) : HoodState :=
  if enabled then { u with warn := 0, loss := 0, fanOff := 0, good := 0, proven := false }
  else { u with
    warn := 0, loss := 0, fanOff := 0, good := 0, holdOff := 0, flowWarn := false, flowLoss := false, fanStop := false
    escalated := false, lossActive := false, timer := 0, proven := true }

/-- A hood's escalation timer at a change of its policy: 0 when the policy leaves or becomes DRAIN_THEN_TRIP (R164). -/
def HoodState.policyChanged (old new : Policy) (u : HoodState) : HoodState :=
  if old == new then u
  else if old == .drainThenTrip || new == .drainThenTrip then { u with timer := 0 } else u

/-- A line that is made not silenceable becomes AUDIBLE (R187). -/
def State.unsilence (l : Line) (s : State) : State :=
  if (s.params.lines.get l).silenceable then s
  else s.modAou fun u => { u with lines := u.lines.set l { u.lines.get l with silenced := false } }

/-- What a parameter's new value does at once beyond its being stored, `before` being the state before the command. -/
def ParamId.effect (k : ParamId) (before s : State) : State :=
  match k with
  | .reservoirLow => if k.get before.params == k.get s.params then s else s.checkReservoir
  | .budgetMax => s.modLvu fun u => { u with budget := min u.budget s.params.budgetMax }
  | .hoodEnable h =>
    if k.get before.params == k.get s.params then s
    else s.modHood h (HoodState.enableChanged (s.hoodParams h).enabled)
  | .policy h =>
    State.hoodBegins h before
      (s.modHood h (HoodState.policyChanged (before.hoodParams h).policy (s.hoodParams h).policy))
  | .silenceable l => s.unsilence l
  | _ => s

/-- A parameter set to a value as stored, with its effect and what follows it. -/
def State.setParam (k : ParamId) (v : Int) (s : State) : State := (k.effect s (s.modParams (k.put v))).finish

/-! ## The commands (R203) -/

/-- The value of a request as clamped to the parameter's range. -/
def ParamId.clampValue (k : ParamId) (v : Int) : Int := clampInt k.range.1 k.range.2 v

/-- SET_PARAM of a parameter with a value. -/
def setParamReply (k : ParamId) (v : Int) (s : State) : Taken :=
  if k.coded && k.clampValue v != v then refused .range s
  else match k.refusal (k.put (k.clampValue v) s.params) s with
    | some st => refused st s
    | none => (clampReply (k.clampValue v != v) (putS4 (k.clampValue v)), s.setParam k (k.clampValue v))

/-- SET_PARAM (R203). -/
def cmdSetParam (pl : List Byte) (s : State) : Taken :=
  match paramOf (byteAt pl 0) (byteAt pl 1) with
  | none => refused .range s
  | some k => setParamReply k (signedLongAt pl 2) s

/-- READ_PARAM (R203). -/
def replyReadParam (pl : List Byte) (s : State) : Reply :=
  match paramOf (byteAt pl 0) (byteAt pl 1) with
  | none => refuse .range
  | some k => answer (putS4 (k.get s.params))

end Sys2Proof.Machine
end

