-- ==== Sys2Proof/Machine/Records.lean ====
section
/-! DEFINITION. The commands of the Outcome Queue and the Incident List (Section 10) and of the port events (R202), with
the byte layouts of Tables 11.8 and 11.9. -/

namespace Sys2Proof.Machine

/-! ## The outcome record in bytes (Table 11.8) -/

def Verdict.code : Verdict → Nat
  | .pass => 0
  | .deviated => 1
  | .reject => 2
  | .lost => 3

def FluxStatus.code : FluxStatus → Nat
  | .notRequired => 0
  | .pending => 1
  | .active => 2
  | .done => 3
  | .partly => 4
  | .skipped => 5

def WaveStatus.code : WaveStatus → Nat
  | .pending => 0
  | .inWave => 1
  | .done => 2
  | .interrupted => 3

def Stage.code : Stage → Nat
  | .entering => 0
  | .travel => 1
  | .exiting => 2

/-- The flags in the row order of Table 1.3, bit 0 first. -/
def BoardFlags.bits (f : BoardFlags) : Nat :=
  bitsOf [f.unscheduled, f.profileMismatch, f.positionUnsure, f.speedDeviation, f.fluxDeviation, f.preheatDeviation,
    f.toptempDeviation, f.parked, f.waveInterrupted, f.waveDeviation, f.extractionEvent, f.tripped]

/-- One lane entry in bytes. -/
def LaneDose.bytes (d : LaneDose) : List Byte := put1 d.lane.val ++ put2 d.delivered ++ put2 d.shortfall

/-- A record in the layout of Table 11.8; READ_BOARD puts its own values in the first, verdict and exit_time fields. -/
def recordBytes (number : Word) (verdict : Nat) (exitTime : Word) (tag : Option Word) (recipe : Option (Fin 32))
    (flags : BoardFlags) (entryTime : Word) (length : Nat) (flux : FluxStatus) (marks : PerZone Mark)
    (topTemp : Option Int) (wave : WaveStatus) (contactMs : Option Nat) (doses : List LaneDose) : List Byte :=
  putWord number ++ put1 (bitsOf [tag.isSome, recipe.isSome, topTemp.isSome, contactMs.isSome]) ++
    putWord (tag.getD 0) ++ put1 ((recipe.map Fin.val).getD 0) ++ put1 verdict ++ put2 flags.bits ++
    putWord entryTime ++ putWord exitTime ++ put2 length ++ put1 flux.code ++
    (put1 marks.z1.rank ++ put1 marks.z2.rank ++ put1 marks.z3.rank) ++ putS2 (topTemp.getD 0) ++ put1 wave.code ++
    put2 (contactMs.getD 0) ++ put1 doses.length ++ doses.flatMap LaneDose.bytes

/-- An outcome record in bytes. -/
def Outcome.bytes (o : Outcome) : List Byte :=
  recordBytes o.number o.verdict.code o.exitTime o.tag o.recipe o.flags o.entryTime o.length o.flux o.marks o.topTemp
    o.wave o.contactMs o.doses

/-- A board record in bytes (R201): entry_pos, stage and park time in the fields put to other use. -/
def BoardRecord.bytes (r : BoardRecord) : List Byte :=
  recordBytes r.entryPos r.stage.code (BitVec.ofNat 32 r.parkTime) r.tag r.recipe r.flags r.entryTime (r.length.getD 0)
    r.flux r.marks r.topTemp r.wave r.contactMs r.doses

/-! ## The incident record in bytes (Table 11.9) -/

/-- The code number of an incident (Table 10.10). -/
def IncidentCode.number : IncidentCode → Nat
  | .reverseLimit => 1
  | .encoderGlitch => 2
  | .stall => 3
  | .sensorReversed => 4
  | .noGeometry => 5
  | .trackOverflow => 6
  | .debris => 7
  | .overlength => 8
  | .phantomExit => 9
  | .boardLost => 10
  | .exitJam => 11
  | .unexpectedBoard => 12
  | .profileSwitch => 13
  | .fluxHandover => 14
  | .fluxPressure => 15
  | .reservoirLow => 16
  | .fluxCut => 17
  | .sensorFault => 18
  | .mainsSync => 19
  | .tcOpen => 20
  | .overtemp => 21
  | .moltenLost => 22
  | .pumpFault => 23
  | .probeFault => 24
  | .levelGap => 25
  | .levelAbandoned => 26
  | .levelHigh => 27
  | .levelLow => 28
  | .levelCritical => 29
  | .feedBudget => 30
  | .wireOut => 31
  | .flowWarn => 32
  | .flowLoss => 33
  | .fanStop => 34
  | .extractionEscalated => 35
  | .stateTrip => 36
  | .outcomesDiscarded => 37
  | .deniedCommand => 38

/-- The subject number (Table 10.11). -/
def Subject.number : Subject → Nat
  | .entry => 1
  | .exit => 2
  | .fluxP => 3
  | .pyro => 4
  | .lane l => 8 + l.val
  | .channel .z1 => 16
  | .channel .z2 => 17
  | .channel .z3 => 18
  | .channel .pot => 19
  | .pump .chip => 20
  | .pump .main => 21
  | .hood .flux => 24
  | .hood .preheat => 25
  | .hood .wave => 26
  | .port .m => 28
  | .port .t => 29
  | .port .l => 30

/-- An incident record in bytes. -/
def Incident.bytes (i : Incident) : List Byte :=
  putWord i.number ++ putWord i.time ++ put1 i.code.number ++
    put1 (bitsOf [i.subject.isSome, i.tag.isSome, i.value.isSome]) ++ put1 ((i.subject.map Subject.number).getD 0) ++
    putWord (i.tag.getD 0) ++ putWord (i.value.getD 0)

/-! ## The outcome queue (R191) -/

/-- The number that a POP_OUTCOME request carries, if any (R200). -/
def requestNumber (pl : List Byte) : Option Word :=
  if pl.length == 4 then some (BitVec.ofNat 32 (longAt pl 0)) else none

/-- The oldest outcome removed. -/
def State.popOutcome (s : State) : State := (s.modOq fun u => { u with outcomes := u.outcomes.tail }).finish

/-- POP_OUTCOME (R191). -/
def cmdPopOutcome (pl : List Byte) (s : State) : Taken :=
  match s.oq.outcomes with
  | [] => refused .empty s
  | o :: _ =>
    match requestNumber pl with
    | some n => if n == o.number then (answer (putWord o.number), s.popOutcome) else refused .range s
    | none => (answer (putWord o.number), s.popOutcome)

/-- PEEK_OUTCOME (R191). -/
def replyPeekOutcome (s : State) : Reply :=
  match s.oq.outcomes with
  | [] => refuse .empty
  | o :: _ => answer o.bytes

/-! ## The incident list (R194) -/

/-- READ_INCIDENTS (R194): at most 4 records from the starting age toward older ages. -/
def replyReadIncidents (pl : List Byte) (s : State) : Reply :=
  if s.inl.incidents.isEmpty then refuse .empty
  else if s.inl.incidents.length ≤ byteAt pl 0 then refuse .range
  else answer (putWord s.inl.counter ++ put1 s.inl.incidents.length ++
    ((s.inl.incidents.reverse.drop (byteAt pl 0)).take Config.incidentRead).flatMap Incident.bytes)

/-- CLEAR_INCIDENTS (R194). -/
def cmdClearIncidents (s : State) : Taken :=
  (answer (put1 s.inl.incidents.length), s.modInl fun u => { u with incidents := [] })

/-! ## Events and masks (R202) -/

/-- SET_EVENT_MASK (R202) on the port that gives it. -/
def cmdSetEventMask (p : Port) (pl : List Byte) (s : State) : Taken :=
  if 63 < byteAt pl 0 then refused .range s
  else (okReply, s.modPort p fun u => { u with mask := BitVec.ofNat 6 (byteAt pl 0) })

/-- GET_EVENTS (R202): the set whole, and then the set is empty. -/
def cmdGetEvents (p : Port) (s : State) : Taken :=
  (answer (put1 (s.scp.ports.get p).events.toNat), s.modPort p fun u => { u with events := 0#6 })

end Sys2Proof.Machine
end

