-- ==== Sys2Proof/Machine/Reads.lean ====
section
/-! DEFINITION. The reads of Table 11.3 (R201): each answer's items in order, in the encoding of R205. -/

namespace Sys2Proof.Machine

/-! ## READ_STATUS -/

/-- The code of a process state: its row position in Table 9.1, in which HOLD has one row for each substate. -/
def ProcState.code : ProcState → Nat
  | .standby => 0
  | .warming => 1
  | .ready => 2
  | .run => 3
  | .drain => 4
  | .hold .holding _ => 5
  | .hold .resuming _ => 6
  | .trip _ => 7

def HoldSub.code : HoldSub → Nat
  | .holding => 0
  | .resuming => 1

def Prior.code : Prior → Nat
  | .run => 0
  | .drain => 1

def ProcState.substate : ProcState → Option Nat
  | .hold sub _ => some sub.code
  | _ => none

def ProcState.prior : ProcState → Option Nat
  | .hold _ prior => some prior.code
  | _ => none

def ProcState.causeCode : ProcState → Option Nat
  | .trip c => some c.code
  | _ => none

def SettleStatus.code : SettleStatus → Nat
  | .unsettled => 0
  | .settling => 1
  | .settled => 2

/-- The conditions reported, by class, each a bit set of the rows of its class in Table 9.2. -/
def State.conditionBytes (s : State) : List Byte :=
  let c := s.conditions
  put1 (bitsOf [false, c.hoodDrain, c.levelCritical, c.probeFault, c.zoneTcOpen]) ++
    put1 (bitsOf [false, false, false, false, false, false, c.pumpFault]) ++
    put1 (bitsOf [false, c.estop, c.overtemp, c.potTcOpen, c.mainsSync, c.escalated, c.hoodTrip, false])

/-- READ_STATUS. -/
def replyReadStatus (s : State) : Reply :=
  answer (put1 s.psc.state.code ++ putOpt put1 0 s.psc.state.substate ++ putOpt put1 0 s.psc.state.prior ++
    putOpt put1 0 s.psc.state.causeCode ++ put1 ((s.rps.active.map Fin.val).getD 255) ++
    put1 s.rps.settle.code ++ put4 s.rps.settleTimer ++ s.conditionBytes ++ put1 (bitsOf (s.startGate.map (!·))))

/-! ## READ_ADMISSION, READ_TRACK, READ_BOARD, READ_GEOMETRY -/

/-- READ_ADMISSION; places free and the outcomes held are one byte each (DESIGN CHOICE, notes/assumptions/62.md). -/
def replyReadAdmission (s : State) : Reply :=
  answer (putBool s.adu.admitOn ++ put2 (bitsOf (s.admitConditions.map (!·))) ++
    putBool s.adu.grace.isSome ++ put4 (s.adu.grace.getD 0) ++
    putOpt put1 0 (s.nextRecipe.map Fin.val) ++ putOpt put1 0 (s.nextProfile.map Fin.val) ++
    putOpt put1 0 (s.adu.default.map Fin.val) ++
    put1 s.adu.queue.length ++ s.adu.queue.flatMap putTicket ++ put1 s.placesFree ++ put1 s.oq.outcomes.length)

/-- A sensor level: BLOCKED is 0 and CLEAR 1 (R14, R205). -/
def putLevel (blocked : Bool) : List Byte := putBool (!blocked)

/-- READ_TRACK; the occupancy, for which no range is given, is four bytes (DESIGN CHOICE, notes/assumptions/62.md). -/
def replyReadTrack (s : State) : Reply :=
  answer (putWord s.ctr.pos ++ putWord s.ctr.hwm ++ put4 s.ctr.excursion ++ putS4 s.ctr.speed ++
    put4 s.ctr.stallTimer ++ put4 s.ctr.occupancy ++ put1 s.ctr.table.length ++ putBool s.ctr.trackAlert ++
    putLevel s.ctr.entryBlocked ++ putLevel s.ctr.exitBlocked ++ putBool s.ctr.mapValid)

/-- READ_BOARD: position 0 is the oldest record. -/
def replyReadBoard (pl : List Byte) (s : State) : Reply :=
  match s.ctr.table[byteAt pl 0]? with
  | some r => answer r.bytes
  | none => refuse .range

/-- The thirteen values of a map, in the order of Table 1.1. -/
def StationMap.values (m : StationMap) : List Nat :=
  [m.pf, m.z1in, m.z1out, m.z2in, m.z2out, m.z3in, m.z3out, m.pp, m.pc, m.pm, m.g, m.px, m.w]

/-- READ_GEOMETRY. -/
def replyReadGeometry (s : State) : Reply := answer (putBool s.ctr.mapValid ++ s.ctr.map.values.flatMap put2)

/-! ## READ_PROFILE, READ_RECIPE -/

/-- The fields of a profile in the order of Table 3.1. -/
def Profile.bytes (p : Profile) : List Byte :=
  put2 p.z1 ++ put2 p.z2 ++ put2 p.z3 ++ put2 p.pot ++ put1 p.band ++ put2 p.chip ++ put2 p.main ++ put1 p.speedMin ++
    put1 p.speedMax ++ put2 p.settleTime ++ put2 p.boost

/-- The fields of an EMPTY profile record, sent as 0. -/
def Profile.zero : Profile := ⟨0, 0, 0, 0, 0, 0, 0, 0, 0, 0, 0⟩

/-- READ_PROFILE. -/
def replyReadProfile (pl : List Byte) (s : State) : Reply :=
  match profileIndex pl 0 with
  | some i => answer (putBool (s.profileAt i).isSome ++ ((s.profileAt i).getD Profile.zero).bytes)
  | none => refuse .range

/-- The fields of a recipe in the order of Table 3.3. -/
def Recipe.bytes (c : Recipe) : List Byte :=
  c.name ++ put1 c.profile.val ++ put2 c.density ++ [c.laneMask] ++ put2 c.leadIn ++ put2 c.leadOut ++
    put2 c.contactMin ++ put2 c.contactMax ++ put2 c.topMin ++ put2 c.topMax ++ put2 c.minGap

/-- The fields of an EMPTY recipe record, sent as 0. -/
def Recipe.zero : Recipe := ⟨List.replicate 8 0#8, 0, 0, 0#8, 0, 0, 0, 0, 0, 0, 0⟩

/-- READ_RECIPE; the reference count is one byte (DESIGN CHOICE, notes/assumptions/62.md). -/
def replyReadRecipe (pl : List Byte) (s : State) : Reply :=
  match recipeIndex pl 0 with
  | some i =>
    answer (putBool (s.recipeAt i).isSome ++ ((s.recipeAt i).getD Recipe.zero).bytes ++ put1 (s.rps.refs[i]))
  | none => refuse .range

/-! ## READ_FLUX -/

/-- The position in the table of the record named, if any. -/
def State.tablePosition (s : State) (owner : Option Word) : Option Nat :=
  owner.bind fun k => s.ctr.table.findIdx? fun r => r.entryPos == k

/-- The phase of a generator (R66). -/
def GenPhase.code : GenPhase → Nat
  | .idle => 0
  | .on _ _ => 1
  | .holdoff _ => 2

/-- A nozzle record in the order of Table 4.1; ENABLED is 0 and DISABLED 1. -/
def Nozzle.bytes (n : Nozzle) : List Byte := put1 n.quantum ++ putBool (!n.enabled) ++ put1 n.onTime ++ put1 n.offTime

/-- A lane's dosing state in the order of Table 4.2; OPEN is 0 and CLOSED 1, and the owner's table position is one byte (DESIGN
CHOICE, notes/assumptions/62.md). -/
def State.laneBytes (s : State) (u : Lane) : List Byte :=
  put4 u.acc ++ put1 u.owed ++ putOpt put1 0 (s.tablePosition u.owner) ++ putBool (!u.window) ++ put1 u.gen.code

/-- A latest sample of two bytes with its validity. An invalid one is present with value 0 and validity 0 (DESIGN CHOICE,
notes/assumptions/59.md). -/
def putSample (v : Sample Nat) : List Byte :=
  match v with
  | .none => [0#8] ++ put2 0 ++ [0#8]
  | .invalid => [1#8] ++ put2 0 ++ [0#8]
  | .valid x => [1#8] ++ put2 x ++ [1#8]

/-- A latest signed sample of two bytes with its validity, an invalid one as in `putSample` (DESIGN CHOICE,
notes/assumptions/59.md). -/
def putSampleS (v : Sample Int) : List Byte :=
  match v with
  | .none => [0#8] ++ put2 0 ++ [0#8]
  | .invalid => [1#8] ++ put2 0 ++ [0#8]
  | .valid x => [1#8] ++ putS2 x ++ [1#8]

/-- The flux supply half of READ_FLUX; the qualify count, for which no range is given, is four bytes (DESIGN CHOICE,
notes/assumptions/62.md). -/
def State.supplyBytes (s : State) : List Byte :=
  putSample s.fdu.pressure ++ put4 s.fdu.qualify ++ putBool s.fdu.fluxPressure ++ putBool s.fdu.reservoirLow ++
    put4 (s.fdu.reservoir / 1000) ++ putBool s.fdu.inhibit.isSome ++ putOpt put1 0 (s.fdu.inhibit.map InhibitMode.code) ++
    put1 (bitsOf [s.fdu.fluxPressure, s.inhibitRequest])

/-- READ_FLUX of a lane, or with H'FF of the flux supply. -/
def replyReadFlux (pl : List Byte) (s : State) : Reply :=
  if byteAt pl 0 == 255 then answer s.supplyBytes
  else match indexOf 8 (byteAt pl 0) with
    | some l => answer ((s.fdu.nozzles[l]).bytes ++ s.laneBytes s.fdu.lanes[l])
    | none => refuse .range

/-! ## READ_HEATER, READ_PUMPS -/

/-- The items of Table 5.1; the SSR drive is ON 0 and OFF 1. -/
def Heater.bytes (u : Heater) : List Byte :=
  putSampleS u.sample ++ put1 u.invalid ++ putS4 u.integral ++ put2 u.power ++ put2 u.firing ++ putBool (!u.ssr) ++
    putBool u.tcOpen ++ putBool u.overtemp

/-- READ_HEATER; RR is one byte (DESIGN CHOICE, notes/assumptions/62.md). -/
def replyReadHeater (s : State) : Reply :=
  answer (allChannels.flatMap (fun c => (s.hcu.ch.get c).bytes) ++ put1 s.hcu.rr ++ putBool s.mainsPresent ++
    putBool s.hcu.mainsSync ++ putSampleS s.hcu.pyro)

def PumpStage.code : PumpStage → Nat
  | .off => 0
  | .starting => 1
  | .running => 2
  | .dipped => 3
  | .stopping => 4
  | .cooldown => 5

/-- One pump's items. -/
def State.pumpBytes (s : State) (p : Pump) : List Byte :=
  let u := s.wpu.pumps.get p
  put1 u.stage.code ++ put2 u.reference ++ put2 u.target ++ putBool u.feedback ++ putBool (s.deferred p) ++
    putBool u.fault

/-- READ_PUMPS; the wave order is UP 0 and DOWN 1. -/
def replyReadPumps (s : State) : Reply :=
  answer (s.pumpBytes .chip ++ s.pumpBytes .main ++ putBool (!s.wpu.orderUp) ++ putBool s.wpu.molten)

/-! ## READ_LEVEL, READ_EXTRACTION, READ_ALARMS -/

def ProbeStage.code : ProbeStage → Nat
  | .parked => 0
  | .descending => 1
  | .contact => 2
  | .ascending => 3
  | .halted => 4

def Feeder.code : Feeder → Nat
  | .idle => 0
  | .feeding _ _ => 1
  | .settling => 2

/-- The steps still to give (R147). -/
def Feeder.toGive : Feeder → Nat
  | .feeding n _ => n
  | _ => 0

/-- The last result and its time, under one presence byte. -/
def putResult (v : Option (Int × Word)) : List Byte :=
  match v with
  | some (l, t) => putBool true ++ putS4 l ++ putWord t
  | none => putBool false ++ putS4 0 ++ putWord 0

/-- READ_LEVEL. Its level flags are the six flags of the LVU in the order of Table 7.5 (DESIGN CHOICE,
notes/assumptions/61.md); the step count and the steps to give are four bytes (DESIGN CHOICE, notes/assumptions/62.md). -/
def replyReadLevel (s : State) : Reply :=
  let u := s.lvu
  answer (put1 u.probe.code ++ put4 u.steps ++ putResult u.last ++ putOpt putWord 0#32 u.request ++ put4 s.requestAge ++
    putOpt put4 0 u.interval ++ putBool u.gap ++ put1 u.feeder.code ++ put4 u.feeder.toGive ++ put4 u.settleTimer ++
    put2 u.budget ++ putBool u.high ++ putBool u.low ++ putBool u.critical ++ putBool u.probeFault ++
    putBool u.feedBudget ++ putBool u.wireOut)

/-- One hood's items; the hold-off, for which no range is given, is four bytes (DESIGN CHOICE, notes/assumptions/62.md). -/
def State.hoodBytes (s : State) (h : Hood) : List Byte :=
  let u := s.exm.hoods.get h
  putSample u.pressure ++ putBool u.fan ++ put2 u.warn ++ put2 u.loss ++ put2 u.fanOff ++ put2 u.good ++
    put4 u.holdOff ++ putBool u.flowWarn ++ putBool u.flowLoss ++ putBool u.fanStop ++ putBool u.escalated ++
    putBool u.lossActive ++ putBool (decide (s.qualifySamples h ≤ u.good)) ++ put4 u.timer ++ putBool u.proven

/-- READ_EXTRACTION. -/
def replyReadExtraction (s : State) : Reply :=
  answer (allHoods.flatMap s.hoodBytes ++ putBool s.extractionProven ++ putBool s.extractionLost)

/-- One line's items; the silence state is SILENCED 0 and AUDIBLE 1. -/
def State.lineBytes (s : State) (l : Line) : List Byte :=
  putBool (s.lineActive l) ++ put1 (s.lineClasses l).toNat ++ putBool (!(s.aou.lines.get l).silenced) ++
    putBool (s.aou.lines.get l).conducting

/-- READ_ALARMS. -/
def replyReadAlarms (s : State) : Reply := answer (s.lineBytes .alm1 ++ s.lineBytes .alm2)

end Sys2Proof.Machine
end

