-- ==== Sys2Proof/Machine/Resets.lean ====
section
/-! DEFINITION. The three resets: POWER_ON_RESET and PIN_RESET (R206) and RESTART (R192, R204), with the state each block
takes (Tables 1.6, 2.4, 3.7, 4.9, 5.8, 6.4, 7.5, 8.4, 9.6, 10.6, 10.12 and 11.10). The queue of waiting commands is the
model's own and no reset touches it. -/

namespace Sys2Proof.Machine

/-! ## The probe after a reset (R135) -/

/-- PARKED at home; otherwise ASCENDING with the step count at 0 and its first step due at once. -/
def probeAfterReset (home : Bool) : ProbeStage := if home then .parked else .ascending

/-! ## Power-on reset and pin reset (R183, R206) -/

/-- The process state after a reset, by the taken level of ESTOP_N (R183). -/
def stateAfterReset (estop : Bool) : ProcState := if estop then .trip .estop else .standby

/-- The incident of a reset into TRIP, as the first record of an emptied list (R183, R195). -/
def incidentsAfterReset (estop : Bool) (time : Word) : List Incident :=
  if estop then [⟨1, time, .stateTrip, none, none, valueOf 1⟩] else []

/-- What a power-on reset and a pin reset leave alike: every piece of state that neither retains, over the parameters,
stores and time in `s`. -/
def State.hardReset (pins : InputPins) (s : State) : State :=
  { s with
    pins := pins
    ctr := { s.ctr with
      encA := pins.encA, encB := pins.encB, pos := 0, hwm := 0, net := 0, counted := false, speed := 0, stallTimer := 0
      table := [], occupancy := 0, trackAlert := false, entryBlocked := pins.entryBlocked
      exitBlocked := pins.exitBlocked }
    adu := { s.adu with queue := [], admitOn := false, grace := none }
    rps := { s.rps with refs := Vector.replicate 32 0, settle := .unsettled, settleTimer := 0 }
    fdu := { s.fdu with
      lanes := Vector.replicate 8 Lane.initial, pressure := .none, checked := false, qualify := 0
      fluxPressure := false, reservoirLow := false, reservoir := 0, inhibit := none }
    hcu := { ch := s.hcu.ch.map fun u => Heater.initial u.margin u.pmax u.holdLimit
             rr := 0, lastHalf := s.timeMs, edgeSeen := false, mainsSync := false, pyro := .none }
    wpu := { molten := false, meltStart := none, ripe := none, orderUp := false
             pumps := ⟨PumpState.initial pins.runChip, PumpState.initial pins.runMain⟩, notReadySeen := true }
    lvu := { probe := probeAfterReset pins.probeHome, steps := 0, pace := if pins.probeHome then 0 else Config.probePace
             contactTimer := 0, afterResult := false, dirUp := true, unread := false, startDue := false, last := none
             target := s.params.levelT, interval := some 0, request := none, gap := false, feeder := .idle
             feedPace := 0, settleTimer := 0
             budget := s.params.budgetMax, high := false, low := false, critical := false, probeFault := false
             feedBudget := false, wireOut := false, wireTimer := 0 }
    exm := { hoods := s.params.hoods.map fun h => HoodState.initial h s.params.proveTime }
    psc := { state := stateAfterReset pins.estopActive, estop := pins.estopActive }
    aou := { lines := ⟨⟨false, false⟩, ⟨false, false⟩⟩ }
    oq := { outcomes := [], counter := 0 }
    inl := { incidents := incidentsAfterReset pins.estopActive s.timeMs, counter := if pins.estopActive then 1 else 0 }
    scp := { ports := ⟨PortState.initial 0x07#6, PortState.initial 0x3F#6, PortState.initial 0x08#6⟩ } }

/-- The state of the part at power-on reset with the pins at the given levels. -/
def State.powerOn (pins : InputPins) (s : State) : State :=
  ({ State.reset with pending := s.pending, wireReads := s.wireReads }.hardReset pins).followAlarms

/-- POWER_ON_RESET (R206). -/
def execPowerOnReset (pins : InputPins) (s : State) : Result := .next (s.powerOn pins)

/-- The state of the part at pin reset: TIME_MS, the parameters, the station map, the default designation, the stores, the
active profile and the nozzle records are retained. -/
def State.pinReset (pins : InputPins) (s : State) : State := (s.hardReset pins).followAlarms

/-- PIN_RESET (R206). -/
def execPinReset (pins : InputPins) (s : State) : Result := .next (s.pinReset pins)

/-! ## RESTART (R192, R204) -/

/-- A heater channel after RESTART (Table 5.8). -/
def Heater.restart (u : Heater) : Heater := u.zero

/-- A pump after RESTART, its feedback input at `feedback` (Table 6.4). -/
def PumpState.restart (feedback : Bool) (u : PumpState) : PumpState := { PumpState.initial feedback with fault := u.fault }

/-- A hood after RESTART (Table 8.4). -/
def HoodState.restart (hp : HoodParams) (proveTime : Nat) (u : HoodState) : HoodState :=
  { HoodState.initial hp proveTime with
    flowWarn := u.flowWarn, flowLoss := u.flowLoss, fanStop := u.fanStop, escalated := u.escalated }

/-- The hoods after RESTART. -/
def State.restartHoods (s : State) : PerHood HoodState :=
  ⟨s.exm.hoods.flux.restart s.params.hoods.flux s.params.proveTime,
   s.exm.hoods.preheat.restart s.params.hoods.preheat s.params.proveTime,
   s.exm.hoods.wave.restart s.params.hoods.wave s.params.proveTime⟩

/-- The RESTART values of every block, before the inhibit follows its causes, the taken levels loaded from the pins (R1, R14,
R135, R173); each port's event set is emptied. -/
def State.restartBlocks (s : State) : State :=
  { s with
    ctr := { s.ctr with
      encA := s.pins.encA, encB := s.pins.encB, pos := 0, hwm := 0, net := 0, counted := false, speed := 0, stallTimer := 0
      table := [], occupancy := 0, entryBlocked := s.pins.entryBlocked, exitBlocked := s.pins.exitBlocked }
    adu := { s.adu with queue := [], admitOn := false, grace := none }
    rps := { s.rps with refs := Vector.replicate 32 0, settle := .unsettled, settleTimer := 0 }
    fdu := { s.fdu with
      lanes := Vector.replicate 8 Lane.initial, pressure := .none, checked := false, qualify := 0 }
    hcu := { s.hcu with ch := s.hcu.ch.map Heater.restart, rr := 0, edgeSeen := false, pyro := .none }
    wpu := { molten := false, meltStart := none, ripe := none, orderUp := false
             pumps := ⟨s.wpu.pumps.chip.restart s.pins.runChip, s.wpu.pumps.main.restart s.pins.runMain⟩
             notReadySeen := true }
    lvu := { s.lvu with
      probe := probeAfterReset s.pins.probeHome, steps := 0, pace := if s.pins.probeHome then 0 else Config.probePace
      contactTimer := 0, afterResult := false, dirUp := true, unread := false, startDue := false
      interval := if s.lvu.probeFault then none else some 0
      request := none, gap := false, feeder := .idle, feedPace := 0, settleTimer := 0, wireTimer := 0 }
    exm := { hoods := s.restartHoods }
    psc := { state := stateAfterReset s.pins.estopActive, estop := s.pins.estopActive }
    oq := { s.oq with outcomes := [] }
    scp := { ports := s.scp.ports.map fun p => { p with events := 0#6 } } }

/-- OUTCOMES_DISCARDED, where outcomes were discarded (R192). -/
def State.noteDiscarded (n : Nat) (s : State) : State :=
  if n == 0 then s else s.addIncident .outcomesDiscarded none none (valueOf (n : Int))

/-- STATE_TRIP with the end of the TRIP class's silence, where the reset enters TRIP (R183, R188). The frame of RESTART is taken
in STANDBY, so the pin ESTOP_N is active here only before its level has been taken (DESIGN CHOICE,
notes/assumptions/15.md). -/
def State.noteEstop (s : State) : State :=
  if s.psc.estop then (s.addIncident .stateTrip none none (valueOf 1)).endSilence .trip else s

/-- The reset that RESTART applies. -/
def State.restart (s : State) : State :=
  ((((s.restartBlocks).followInhibit).noteEstop).noteDiscarded s.oq.outcomes.length).followAlarms

/-- RESTART (R192, R204); every state but STANDBY is refused by its availability. -/
def cmdRestart (pl : List Byte) (s : State) : Taken :=
  if 1 < byteAt pl 0 then refused .range s
  else if byteAt pl 0 == 0 && !s.oq.outcomes.isEmpty then refused .pending s
  else (okReply, s.restart)

end Sys2Proof.Machine
end

