-- ==== Sys2Proof/Machine/Ports.lean ====
section
/-! DEFINITION. The Serial Command Ports (Section 11): the command table with its rights, lengths and availability, the
check of a frame that is taken, the waiting frame, the bytes received, and one meaning per port command. -/

namespace Sys2Proof.Machine

/-! ## The command table (Tables 11.2 and 11.3) -/

/-- The commands of the three ports. -/
inductive Cmd
  | addTicket | withdrawTicket | flushTickets | setDefault | loadProfile | eraseProfile | selectProfile | loadRecipe | eraseRecipe
  | setGeometry | setNozzle | refillFlux | warm | cool | start | stop | hold | resume
  | trip | clear | restart | waveUp | waveDown | ackTrack | ackFlux | ackHeater | ackPump
  | ackLevel | ackHood | silence | popOutcome | clearIncidents | setParam | setEventMask | getEvents | readStatus
  | readAdmission | readTrack | readBoard | readGeometry | readProfile | readRecipe | readFlux | readHeater | readPumps
  | readLevel | readExtraction | readAlarms | readParam | peekOutcome | readIncidents
  deriving DecidableEq, Repr

/-- The CMD byte of a command. -/
def Cmd.code : Cmd → Byte
  | .addTicket => 0x20#8
  | .withdrawTicket => 0x21#8
  | .flushTickets => 0x22#8
  | .setDefault => 0x23#8
  | .loadProfile => 0x24#8
  | .eraseProfile => 0x25#8
  | .selectProfile => 0x26#8
  | .loadRecipe => 0x27#8
  | .eraseRecipe => 0x28#8
  | .setGeometry => 0x29#8
  | .setNozzle => 0x2A#8
  | .refillFlux => 0x2B#8
  | .warm => 0x30#8
  | .cool => 0x31#8
  | .start => 0x32#8
  | .stop => 0x33#8
  | .hold => 0x34#8
  | .resume => 0x35#8
  | .trip => 0x36#8
  | .clear => 0x37#8
  | .restart => 0x38#8
  | .waveUp => 0x39#8
  | .waveDown => 0x3A#8
  | .ackTrack => 0x40#8
  | .ackFlux => 0x41#8
  | .ackHeater => 0x42#8
  | .ackPump => 0x43#8
  | .ackLevel => 0x44#8
  | .ackHood => 0x45#8
  | .silence => 0x46#8
  | .popOutcome => 0x50#8
  | .clearIncidents => 0x51#8
  | .setParam => 0x52#8
  | .setEventMask => 0x53#8
  | .getEvents => 0x54#8
  | .readStatus => 0x01#8
  | .readAdmission => 0x02#8
  | .readTrack => 0x03#8
  | .readBoard => 0x04#8
  | .readGeometry => 0x05#8
  | .readProfile => 0x06#8
  | .readRecipe => 0x07#8
  | .readFlux => 0x08#8
  | .readHeater => 0x09#8
  | .readPumps => 0x0A#8
  | .readLevel => 0x0B#8
  | .readExtraction => 0x0C#8
  | .readAlarms => 0x0D#8
  | .readParam => 0x0E#8
  | .peekOutcome => 0x0F#8
  | .readIncidents => 0x10#8

/-- The command of a CMD byte, if the tables have it. -/
def commandOf (code : Byte) : Option Cmd :=
  match code.toNat with
  | 0x01 => some .readStatus
  | 0x02 => some .readAdmission
  | 0x03 => some .readTrack
  | 0x04 => some .readBoard
  | 0x05 => some .readGeometry
  | 0x06 => some .readProfile
  | 0x07 => some .readRecipe
  | 0x08 => some .readFlux
  | 0x09 => some .readHeater
  | 0x0A => some .readPumps
  | 0x0B => some .readLevel
  | 0x0C => some .readExtraction
  | 0x0D => some .readAlarms
  | 0x0E => some .readParam
  | 0x0F => some .peekOutcome
  | 0x10 => some .readIncidents
  | 0x20 => some .addTicket
  | 0x21 => some .withdrawTicket
  | 0x22 => some .flushTickets
  | 0x23 => some .setDefault
  | 0x24 => some .loadProfile
  | 0x25 => some .eraseProfile
  | 0x26 => some .selectProfile
  | 0x27 => some .loadRecipe
  | 0x28 => some .eraseRecipe
  | 0x29 => some .setGeometry
  | 0x2A => some .setNozzle
  | 0x2B => some .refillFlux
  | 0x30 => some .warm
  | 0x31 => some .cool
  | 0x32 => some .start
  | 0x33 => some .stop
  | 0x34 => some .hold
  | 0x35 => some .resume
  | 0x36 => some .trip
  | 0x37 => some .clear
  | 0x38 => some .restart
  | 0x39 => some .waveUp
  | 0x3A => some .waveDown
  | 0x40 => some .ackTrack
  | 0x41 => some .ackFlux
  | 0x42 => some .ackHeater
  | 0x43 => some .ackPump
  | 0x44 => some .ackLevel
  | 0x45 => some .ackHood
  | 0x46 => some .silence
  | 0x50 => some .popOutcome
  | 0x51 => some .clearIncidents
  | 0x52 => some .setParam
  | 0x53 => some .setEventMask
  | 0x54 => some .getEvents
  | _ => none

/-- The command is in the rights of the port (R199). -/
def Cmd.permits (c : Cmd) (p : Port) : Bool :=
  match c with
  | .addTicket => p == .m
  | .withdrawTicket => p == .m
  | .flushTickets => p != .l
  | .setDefault => p == .t
  | .loadProfile => p == .t
  | .eraseProfile => p == .t
  | .selectProfile => p == .t
  | .loadRecipe => p == .t
  | .eraseRecipe => p == .t
  | .setGeometry => p == .m
  | .setNozzle => p == .t
  | .refillFlux => p == .t
  | .warm => p == .t
  | .cool => p == .t
  | .start => p == .t
  | .stop => p != .l
  | .hold => p == .m
  | .resume => p != .l
  | .trip => p == .t
  | .clear => p == .t
  | .restart => p == .t
  | .waveUp => p != .l
  | .waveDown => p != .l
  | .ackTrack => p != .l
  | .ackFlux => p == .t
  | .ackHeater => p == .t
  | .ackPump => p == .t
  | .ackLevel => p == .t
  | .ackHood => p == .t
  | .silence => p == .t
  | .popOutcome => p != .m
  | .clearIncidents => p == .t
  | .setParam => p == .t
  | .setEventMask => true
  | .getEvents => true
  | .readStatus => true
  | .readAdmission => true
  | .readTrack => true
  | .readBoard => true
  | .readGeometry => true
  | .readProfile => true
  | .readRecipe => true
  | .readFlux => true
  | .readHeater => true
  | .readPumps => true
  | .readLevel => true
  | .readExtraction => true
  | .readAlarms => true
  | .readParam => true
  | .peekOutcome => true
  | .readIncidents => true

/-- A payload length of the command (Tables 11.2 and 11.3). -/
def Cmd.lengthOk (c : Cmd) (n : Nat) : Bool :=
  match c with
  | .addTicket => n == 6
  | .withdrawTicket => n == 0
  | .flushTickets => n == 0
  | .setDefault => n == 1
  | .loadProfile => n == 20
  | .eraseProfile => n == 1
  | .selectProfile => n == 1
  | .loadRecipe => n == 27
  | .eraseRecipe => n == 1
  | .setGeometry => n == 26
  | .setNozzle => n == 5
  | .refillFlux => n == 4
  | .warm => n == 0
  | .cool => n == 0
  | .start => n == 0
  | .stop => n == 0
  | .hold => n == 0
  | .resume => n == 0
  | .trip => n == 0
  | .clear => n == 0
  | .restart => n == 1
  | .waveUp => n == 0
  | .waveDown => n == 0
  | .ackTrack => n == 0
  | .ackFlux => n == 0
  | .ackHeater => n == 1
  | .ackPump => n == 0
  | .ackLevel => n == 0
  | .ackHood => n == 1
  | .silence => n == 0
  | .popOutcome => n == 0 || n == 4
  | .clearIncidents => n == 0
  | .setParam => n == 6
  | .setEventMask => n == 1
  | .getEvents => n == 0
  | .readStatus => n == 0
  | .readAdmission => n == 0
  | .readTrack => n == 0
  | .readBoard => n == 1
  | .readGeometry => n == 0
  | .readProfile => n == 1
  | .readRecipe => n == 1
  | .readFlux => n == 1
  | .readHeater => n == 0
  | .readPumps => n == 0
  | .readLevel => n == 0
  | .readExtraction => n == 0
  | .readAlarms => n == 0
  | .readParam => n == 2
  | .peekOutcome => n == 0
  | .readIncidents => n == 1

/-- A row of Table 11.2: the command is available where the state is marked, HOLD standing for both substates. -/
def inStates (standby warming ready run drain hold trip : Bool) : ProcState → Bool
  | .standby => standby
  | .warming => warming
  | .ready => ready
  | .run => run
  | .drain => drain
  | .hold _ _ => hold
  | .trip _ => trip

/-- The command is available in the process state (R199). -/
def Cmd.available (c : Cmd) (p : ProcState) : Bool :=
  match c with
  | .addTicket => inStates true true true true true true false p
  | .withdrawTicket => true
  | .flushTickets => true
  | .setDefault => true
  | .loadProfile => true
  | .eraseProfile => true
  | .selectProfile => inStates true true true false false false false p
  | .loadRecipe => true
  | .eraseRecipe => true
  | .setGeometry => inStates true true true false false false false p
  | .setNozzle => inStates true true true false false false true p
  | .refillFlux => true
  | .warm => inStates true false false false false false false p
  | .cool => inStates true true true false false false false p
  | .start => inStates false false true true false false false p
  | .stop => inStates false false false true true true false p
  | .hold => inStates false false false true true true false p
  | .resume => inStates false false false false false true false p
  | .trip => true
  | .clear => inStates false false false false false false true p
  | .restart => inStates true false false false false false false p
  | .waveUp => inStates false true true true true false false p
  | .waveDown => inStates true true true true true false false p
  | .ackTrack => true
  | .ackFlux => true
  | .ackHeater => true
  | .ackPump => true
  | .ackLevel => true
  | .ackHood => true
  | .silence => true
  | .popOutcome => true
  | .clearIncidents => true
  | .setParam => true
  | .setEventMask => true
  | .getEvents => true
  | .readStatus => true
  | .readAdmission => true
  | .readTrack => true
  | .readBoard => true
  | .readGeometry => true
  | .readProfile => true
  | .readRecipe => true
  | .readFlux => true
  | .readHeater => true
  | .readPumps => true
  | .readLevel => true
  | .readExtraction => true
  | .readAlarms => true
  | .readParam => true
  | .peekOutcome => true
  | .readIncidents => true

/-- The command's own rule: its reply and the state after it (R198, step 5). -/
def Cmd.run (c : Cmd) (p : Port) (pl : List Byte) (s : State) : Taken :=
  match c with
  | .addTicket => cmdAddTicket pl s
  | .withdrawTicket => cmdWithdrawTicket s
  | .flushTickets => cmdFlushTickets s
  | .setDefault => cmdSetDefault pl s
  | .loadProfile => cmdLoadProfile pl s
  | .eraseProfile => cmdEraseProfile pl s
  | .selectProfile => cmdSelectProfile pl s
  | .loadRecipe => cmdLoadRecipe pl s
  | .eraseRecipe => cmdEraseRecipe pl s
  | .setGeometry => cmdSetGeometry pl s
  | .setNozzle => cmdSetNozzle pl s
  | .refillFlux => cmdRefillFlux pl s
  | .warm => cmdWarm s
  | .cool => cmdCool s
  | .start => cmdStart s
  | .stop => cmdStop s
  | .hold => cmdHold s
  | .resume => cmdResume s
  | .trip => cmdTrip s
  | .clear => cmdClear s
  | .restart => cmdRestart pl s
  | .waveUp => cmdWaveUp s
  | .waveDown => cmdWaveDown s
  | .ackTrack => cmdAckTrack s
  | .ackFlux => cmdAckFlux s
  | .ackHeater => cmdAckHeater pl s
  | .ackPump => cmdAckPump s
  | .ackLevel => cmdAckLevel s
  | .ackHood => cmdAckHood pl s
  | .silence => cmdSilence s
  | .popOutcome => cmdPopOutcome pl s
  | .clearIncidents => cmdClearIncidents s
  | .setParam => cmdSetParam pl s
  | .setEventMask => cmdSetEventMask p pl s
  | .getEvents => cmdGetEvents p s
  | .readStatus => (replyReadStatus s, s)
  | .readAdmission => (replyReadAdmission s, s)
  | .readTrack => (replyReadTrack s, s)
  | .readBoard => (replyReadBoard pl s, s)
  | .readGeometry => (replyReadGeometry s, s)
  | .readProfile => (replyReadProfile pl s, s)
  | .readRecipe => (replyReadRecipe pl s, s)
  | .readFlux => (replyReadFlux pl s, s)
  | .readHeater => (replyReadHeater s, s)
  | .readPumps => (replyReadPumps s, s)
  | .readLevel => (replyReadLevel s, s)
  | .readExtraction => (replyReadExtraction s, s)
  | .readAlarms => (replyReadAlarms s, s)
  | .readParam => (replyReadParam pl s, s)
  | .peekOutcome => (replyPeekOutcome s, s)
  | .readIncidents => (replyReadIncidents pl s, s)

/-! ## Taking a frame (R197, R198) -/

/-- The response to a taken frame: the port is answering with it. -/
def State.respond (p : Port) (cmd : Byte) (r : Reply) (s : State) : State :=
  s.modPort p fun u => { u with answering := some (responseFrame cmd r) }

/-- DENIED_COMMAND (R198, step 2). -/
def State.noteDenied (p : Port) (cmd : Byte) (s : State) : State :=
  s.addIncident .deniedCommand (some (.port p)) none (valueOf ((cmd.toNat : Nat) : Int))

/-- The checks of R198 on a frame of a known command, and its taking. -/
def State.takeCommand (c : Cmd) (p : Port) (f : Frame) (s : State) : State :=
  if !c.permits p then (s.noteDenied p f.cmd).respond p f.cmd (refuse .denied)
  else if !c.lengthOk f.payload.length then s.respond p f.cmd (refuse .length)
  else if !c.available s.psc.state then s.respond p f.cmd (refuse .state)
  else (c.run p f.payload s).2.respond p f.cmd (c.run p f.payload s).1

/-- A frame is taken on port `p` (R198). -/
def State.takeFrame (p : Port) (f : Frame) (s : State) : State :=
  match commandOf f.cmd with
  | some c => s.takeCommand c p f
  | none => s.respond p f.cmd (refuse .unknown)

/-- The receive buffer of port `p` returns to hunting (R196). -/
def State.hunt (p : Port) (s : State) : State := s.modPort p fun u => { u with rx := none, gap := 0 }

/-- A frame with a correct CRC completes on port `p`: taken, kept as the waiting frame, or discarded (R197). -/
def State.frameArrives (p : Port) (f : Frame) (s : State) : State :=
  match (s.scp.ports.get p).waiting, (s.scp.ports.get p).answering with
  | some _, _ => s.hunt p
  | none, some _ => (s.hunt p).modPort p fun u => { u with waiting := some f }
  | none, none => (s.hunt p).takeFrame p f

/-- The waiting frame, if any, is taken at the end of the response in progress (R197). -/
def State.endResponse (p : Port) (s : State) : State :=
  match (s.scp.ports.get p).waiting with
  | some f => (s.modPort p fun u => { u with answering := none, waiting := none }).takeFrame p f
  | none => s.modPort p fun u => { u with answering := none }

/-- RESPONSE_SENT (R197): the last stop bit of the response in progress on port `p`. -/
def execResponseSent (p : Port) (s : State) : Result :=
  whenDue (s.scp.ports.get p).answering.isSome (State.endResponse p) s

/-! ## Bytes received (R196) -/

/-- The frame in progress has stood for more than 10 ms since its last byte. -/
def PortState.timedOut (u : PortState) : Bool := u.rx.isSome && decide (Config.frameGapMax < u.gap)

/-- The bytes of a frame after H'A5, LEN first, are whole: LEN, CMD, the payload and two CRC bytes. -/
def frameWhole (bs : List Byte) : Bool := bs.length == byteAt bs 0 + 4

/-- The CRC of a whole frame is correct. -/
def frameSound (bs : List Byte) : Bool := crcBytes (bs.take (byteAt bs 0 + 2)) == bs.drop (byteAt bs 0 + 2)

/-- The frame of its bytes. -/
def frameOf (bs : List Byte) : Frame := ⟨bs.getD 1 0, (bs.drop 2).take (byteAt bs 0)⟩

/-- A byte received while hunting: H'A5 begins a frame. -/
def State.huntByte (p : Port) (b : Byte) (framingError : Bool) (s : State) : State :=
  if !framingError && b == 0xA5#8 then s.modPort p fun u => { u with rx := some [], gap := 0 } else s

/-- A byte added to the frame in progress. -/
def State.frameByte (p : Port) (bs : List Byte) (s : State) : State :=
  if Config.payloadMax < byteAt bs 0 then s.hunt p
  else if !frameWhole bs then s.modPort p fun u => { u with rx := some bs, gap := 0 }
  else if frameSound bs then s.frameArrives p (frameOf bs)
  else s.hunt p

/-- A byte received on port `p`. -/
def State.receive (p : Port) (b : Byte) (framingError : Bool) (s : State) : State :=
  if (s.scp.ports.get p).timedOut then (s.hunt p).huntByte p b framingError
  else match (s.scp.ports.get p).rx with
    | none => s.huntByte p b framingError
    | some bs => if framingError then s.hunt p else s.frameByte p (bs ++ [b])

/-- BYTE_RECEIVED (R196). -/
def execByteReceived (p : Port) (b : Byte) (framingError : Bool) (s : State) : Result :=
  .next (s.receive p b framingError)

/-- The bytes of the frame that `last` completes on port `p`, if it completes one in time. -/
def PortState.completedBy (last : Byte) (u : PortState) : Option (List Byte) :=
  match u.rx with
  | some bs => if !u.timedOut && frameWhole (bs ++ [last]) then some (bs ++ [last]) else none
  | none => none

/-- `last` completes a frame whose CRC differs. -/
def PortState.crcFails (last : Byte) (u : PortState) : Bool :=
  match u.completedBy last with
  | some bs => !frameSound bs
  | none => false

/-- FRAME_CRC_ERROR (R196): the frame is discarded with no response and no incident. -/
def execFrameCrcError (p : Port) (last : Byte) (s : State) : Result :=
  whenDue ((s.scp.ports.get p).crcFails last) (State.hunt p) s

/-- FRAME_TIMEOUT (R196): the partial frame is discarded. -/
def execFrameTimeout (p : Port) (s : State) : Result := whenDue (s.scp.ports.get p).timedOut (State.hunt p) s

/-- `last` completes a frame with a correct CRC while another waits. -/
def PortState.discards (last : Byte) (u : PortState) : Bool :=
  match u.completedBy last with
  | some bs => frameSound bs && u.waiting.isSome
  | none => false

/-- FRAME_DISCARDED (R197): the frame is discarded with no response and no incident. -/
def execFrameDiscarded (p : Port) (last : Byte) (s : State) : Result :=
  whenDue ((s.scp.ports.get p).discards last) (State.hunt p) s

/-- UNKNOWN_COMMAND (R198): a frame whose CMD byte is in no command table completes on port `p`. -/
def execUnknownCommand (p : Port) (code : Byte) (pl : List Byte) (s : State) : Result :=
  whenDue (commandOf code).isNone (State.frameArrives p ⟨code, pl⟩) s

/-! ## The port commands: each row is the completion of its frame on port `p` -/

/-- ADD_TICKET: its frame completes on port `p`. -/
def execAddTicket (p : Port) (pl : List Byte) (s : State) : Result :=
  .next (s.frameArrives p ⟨Cmd.addTicket.code, pl⟩)

/-- WITHDRAW_TICKET: its frame completes on port `p`. -/
def execWithdrawTicket (p : Port) (pl : List Byte) (s : State) : Result :=
  .next (s.frameArrives p ⟨Cmd.withdrawTicket.code, pl⟩)

/-- FLUSH_TICKETS: its frame completes on port `p`. -/
def execFlushTickets (p : Port) (pl : List Byte) (s : State) : Result :=
  .next (s.frameArrives p ⟨Cmd.flushTickets.code, pl⟩)

/-- SET_DEFAULT: its frame completes on port `p`. -/
def execSetDefault (p : Port) (pl : List Byte) (s : State) : Result :=
  .next (s.frameArrives p ⟨Cmd.setDefault.code, pl⟩)

/-- LOAD_PROFILE: its frame completes on port `p`. -/
def execLoadProfile (p : Port) (pl : List Byte) (s : State) : Result :=
  .next (s.frameArrives p ⟨Cmd.loadProfile.code, pl⟩)

/-- ERASE_PROFILE: its frame completes on port `p`. -/
def execEraseProfile (p : Port) (pl : List Byte) (s : State) : Result :=
  .next (s.frameArrives p ⟨Cmd.eraseProfile.code, pl⟩)

/-- SELECT_PROFILE: its frame completes on port `p`. -/
def execSelectProfile (p : Port) (pl : List Byte) (s : State) : Result :=
  .next (s.frameArrives p ⟨Cmd.selectProfile.code, pl⟩)

/-- LOAD_RECIPE: its frame completes on port `p`. -/
def execLoadRecipe (p : Port) (pl : List Byte) (s : State) : Result :=
  .next (s.frameArrives p ⟨Cmd.loadRecipe.code, pl⟩)

/-- ERASE_RECIPE: its frame completes on port `p`. -/
def execEraseRecipe (p : Port) (pl : List Byte) (s : State) : Result :=
  .next (s.frameArrives p ⟨Cmd.eraseRecipe.code, pl⟩)

/-- SET_GEOMETRY: its frame completes on port `p`. -/
def execSetGeometry (p : Port) (pl : List Byte) (s : State) : Result :=
  .next (s.frameArrives p ⟨Cmd.setGeometry.code, pl⟩)

/-- SET_NOZZLE: its frame completes on port `p`. -/
def execSetNozzle (p : Port) (pl : List Byte) (s : State) : Result :=
  .next (s.frameArrives p ⟨Cmd.setNozzle.code, pl⟩)

/-- REFILL_FLUX: its frame completes on port `p`. -/
def execRefillFlux (p : Port) (pl : List Byte) (s : State) : Result :=
  .next (s.frameArrives p ⟨Cmd.refillFlux.code, pl⟩)

/-- WARM: its frame completes on port `p`. -/
def execWarm (p : Port) (pl : List Byte) (s : State) : Result :=
  .next (s.frameArrives p ⟨Cmd.warm.code, pl⟩)

/-- COOL: its frame completes on port `p`. -/
def execCool (p : Port) (pl : List Byte) (s : State) : Result :=
  .next (s.frameArrives p ⟨Cmd.cool.code, pl⟩)

/-- START: its frame completes on port `p`. -/
def execStart (p : Port) (pl : List Byte) (s : State) : Result :=
  .next (s.frameArrives p ⟨Cmd.start.code, pl⟩)

/-- STOP: its frame completes on port `p`. -/
def execStop (p : Port) (pl : List Byte) (s : State) : Result :=
  .next (s.frameArrives p ⟨Cmd.stop.code, pl⟩)

/-- HOLD: its frame completes on port `p`. -/
def execHold (p : Port) (pl : List Byte) (s : State) : Result :=
  .next (s.frameArrives p ⟨Cmd.hold.code, pl⟩)

/-- RESUME: its frame completes on port `p`. -/
def execResume (p : Port) (pl : List Byte) (s : State) : Result :=
  .next (s.frameArrives p ⟨Cmd.resume.code, pl⟩)

/-- TRIP: its frame completes on port `p`. -/
def execTrip (p : Port) (pl : List Byte) (s : State) : Result :=
  .next (s.frameArrives p ⟨Cmd.trip.code, pl⟩)

/-- CLEAR: its frame completes on port `p`. -/
def execClear (p : Port) (pl : List Byte) (s : State) : Result :=
  .next (s.frameArrives p ⟨Cmd.clear.code, pl⟩)

/-- RESTART: its frame completes on port `p`. -/
def execRestart (p : Port) (pl : List Byte) (s : State) : Result :=
  .next (s.frameArrives p ⟨Cmd.restart.code, pl⟩)

/-- WAVE_UP: its frame completes on port `p`. -/
def execWaveUp (p : Port) (pl : List Byte) (s : State) : Result :=
  .next (s.frameArrives p ⟨Cmd.waveUp.code, pl⟩)

/-- WAVE_DOWN: its frame completes on port `p`. -/
def execWaveDown (p : Port) (pl : List Byte) (s : State) : Result :=
  .next (s.frameArrives p ⟨Cmd.waveDown.code, pl⟩)

/-- ACK_TRACK: its frame completes on port `p`. -/
def execAckTrack (p : Port) (pl : List Byte) (s : State) : Result :=
  .next (s.frameArrives p ⟨Cmd.ackTrack.code, pl⟩)

/-- ACK_FLUX: its frame completes on port `p`. -/
def execAckFlux (p : Port) (pl : List Byte) (s : State) : Result :=
  .next (s.frameArrives p ⟨Cmd.ackFlux.code, pl⟩)

/-- ACK_HEATER: its frame completes on port `p`. -/
def execAckHeater (p : Port) (pl : List Byte) (s : State) : Result :=
  .next (s.frameArrives p ⟨Cmd.ackHeater.code, pl⟩)

/-- ACK_PUMP: its frame completes on port `p`. -/
def execAckPump (p : Port) (pl : List Byte) (s : State) : Result :=
  .next (s.frameArrives p ⟨Cmd.ackPump.code, pl⟩)

/-- ACK_LEVEL: its frame completes on port `p`. -/
def execAckLevel (p : Port) (pl : List Byte) (s : State) : Result :=
  .next (s.frameArrives p ⟨Cmd.ackLevel.code, pl⟩)

/-- ACK_HOOD: its frame completes on port `p`. -/
def execAckHood (p : Port) (pl : List Byte) (s : State) : Result :=
  .next (s.frameArrives p ⟨Cmd.ackHood.code, pl⟩)

/-- SILENCE: its frame completes on port `p`. -/
def execSilence (p : Port) (pl : List Byte) (s : State) : Result :=
  .next (s.frameArrives p ⟨Cmd.silence.code, pl⟩)

/-- POP_OUTCOME: its frame completes on port `p`. -/
def execPopOutcome (p : Port) (pl : List Byte) (s : State) : Result :=
  .next (s.frameArrives p ⟨Cmd.popOutcome.code, pl⟩)

/-- CLEAR_INCIDENTS: its frame completes on port `p`. -/
def execClearIncidents (p : Port) (pl : List Byte) (s : State) : Result :=
  .next (s.frameArrives p ⟨Cmd.clearIncidents.code, pl⟩)

/-- SET_PARAM: its frame completes on port `p`. -/
def execSetParam (p : Port) (pl : List Byte) (s : State) : Result :=
  .next (s.frameArrives p ⟨Cmd.setParam.code, pl⟩)

/-- SET_EVENT_MASK: its frame completes on port `p`. -/
def execSetEventMask (p : Port) (pl : List Byte) (s : State) : Result :=
  .next (s.frameArrives p ⟨Cmd.setEventMask.code, pl⟩)

/-- GET_EVENTS: its frame completes on port `p`. -/
def execGetEvents (p : Port) (pl : List Byte) (s : State) : Result :=
  .next (s.frameArrives p ⟨Cmd.getEvents.code, pl⟩)

/-- READ_STATUS: its frame completes on port `p`. -/
def execReadStatus (p : Port) (pl : List Byte) (s : State) : Result :=
  .next (s.frameArrives p ⟨Cmd.readStatus.code, pl⟩)

/-- READ_ADMISSION: its frame completes on port `p`. -/
def execReadAdmission (p : Port) (pl : List Byte) (s : State) : Result :=
  .next (s.frameArrives p ⟨Cmd.readAdmission.code, pl⟩)

/-- READ_TRACK: its frame completes on port `p`. -/
def execReadTrack (p : Port) (pl : List Byte) (s : State) : Result :=
  .next (s.frameArrives p ⟨Cmd.readTrack.code, pl⟩)

/-- READ_BOARD: its frame completes on port `p`. -/
def execReadBoard (p : Port) (pl : List Byte) (s : State) : Result :=
  .next (s.frameArrives p ⟨Cmd.readBoard.code, pl⟩)

/-- READ_GEOMETRY: its frame completes on port `p`. -/
def execReadGeometry (p : Port) (pl : List Byte) (s : State) : Result :=
  .next (s.frameArrives p ⟨Cmd.readGeometry.code, pl⟩)

/-- READ_PROFILE: its frame completes on port `p`. -/
def execReadProfile (p : Port) (pl : List Byte) (s : State) : Result :=
  .next (s.frameArrives p ⟨Cmd.readProfile.code, pl⟩)

/-- READ_RECIPE: its frame completes on port `p`. -/
def execReadRecipe (p : Port) (pl : List Byte) (s : State) : Result :=
  .next (s.frameArrives p ⟨Cmd.readRecipe.code, pl⟩)

/-- READ_FLUX: its frame completes on port `p`. -/
def execReadFlux (p : Port) (pl : List Byte) (s : State) : Result :=
  .next (s.frameArrives p ⟨Cmd.readFlux.code, pl⟩)

/-- READ_HEATER: its frame completes on port `p`. -/
def execReadHeater (p : Port) (pl : List Byte) (s : State) : Result :=
  .next (s.frameArrives p ⟨Cmd.readHeater.code, pl⟩)

/-- READ_PUMPS: its frame completes on port `p`. -/
def execReadPumps (p : Port) (pl : List Byte) (s : State) : Result :=
  .next (s.frameArrives p ⟨Cmd.readPumps.code, pl⟩)

/-- READ_LEVEL: its frame completes on port `p`. -/
def execReadLevel (p : Port) (pl : List Byte) (s : State) : Result :=
  .next (s.frameArrives p ⟨Cmd.readLevel.code, pl⟩)

/-- READ_EXTRACTION: its frame completes on port `p`. -/
def execReadExtraction (p : Port) (pl : List Byte) (s : State) : Result :=
  .next (s.frameArrives p ⟨Cmd.readExtraction.code, pl⟩)

/-- READ_ALARMS: its frame completes on port `p`. -/
def execReadAlarms (p : Port) (pl : List Byte) (s : State) : Result :=
  .next (s.frameArrives p ⟨Cmd.readAlarms.code, pl⟩)

/-- READ_PARAM: its frame completes on port `p`. -/
def execReadParam (p : Port) (pl : List Byte) (s : State) : Result :=
  .next (s.frameArrives p ⟨Cmd.readParam.code, pl⟩)

/-- PEEK_OUTCOME: its frame completes on port `p`. -/
def execPeekOutcome (p : Port) (pl : List Byte) (s : State) : Result :=
  .next (s.frameArrives p ⟨Cmd.peekOutcome.code, pl⟩)

/-- READ_INCIDENTS: its frame completes on port `p`. -/
def execReadIncidents (p : Port) (pl : List Byte) (s : State) : Result :=
  .next (s.frameArrives p ⟨Cmd.readIncidents.code, pl⟩)

end Sys2Proof.Machine
end

