-- ==== Sys2Proof/Machine/Dispatch.lean ====
section
/-! DEFINITION. The dispatch: one arm per row of spec/opcode_table.json. -/

namespace Sys2Proof.Machine

def exec (i : Instr) (s : State) : Host.Outcome State Fault Refusal :=
  match i with
  | .encoderCount a b => Sys2Proof.Machine.execEncoderCount a b s
  | .quadratureGlitch => Sys2Proof.Machine.execQuadratureGlitch s
  | .speedWindowEnd => Sys2Proof.Machine.execSpeedWindowEnd s
  | .stall => Sys2Proof.Machine.execStall s
  | .entryLeadingEdge => Sys2Proof.Machine.execEntryLeadingEdge s
  | .entryTrailingEdge => Sys2Proof.Machine.execEntryTrailingEdge s
  | .exitLeadingEdge => Sys2Proof.Machine.execExitLeadingEdge s
  | .exitTrailingEdge => Sys2Proof.Machine.execExitTrailingEdge s
  | .admitGraceExpiry => Sys2Proof.Machine.execAdmitGraceExpiry s
  | .setGeometry p pl => Sys2Proof.Machine.execSetGeometry p pl s
  | .addTicket p pl => Sys2Proof.Machine.execAddTicket p pl s
  | .withdrawTicket p pl => Sys2Proof.Machine.execWithdrawTicket p pl s
  | .flushTickets p pl => Sys2Proof.Machine.execFlushTickets p pl s
  | .setDefault p pl => Sys2Proof.Machine.execSetDefault p pl s
  | .loadProfile p pl => Sys2Proof.Machine.execLoadProfile p pl s
  | .eraseProfile p pl => Sys2Proof.Machine.execEraseProfile p pl s
  | .selectProfile p pl => Sys2Proof.Machine.execSelectProfile p pl s
  | .loadRecipe p pl => Sys2Proof.Machine.execLoadRecipe p pl s
  | .eraseRecipe p pl => Sys2Proof.Machine.execEraseRecipe p pl s
  | .setNozzle p pl => Sys2Proof.Machine.execSetNozzle p pl s
  | .refillFlux p pl => Sys2Proof.Machine.execRefillFlux p pl s
  | .valveOnEnd l => Sys2Proof.Machine.execValveOnEnd l s
  | .holdoffEnd l => Sys2Proof.Machine.execHoldoffEnd l s
  | .fluxPressureSample current => Sys2Proof.Machine.execFluxPressureSample current s
  | .fluxPressure => Sys2Proof.Machine.execFluxPressure s
  | .ackFlux p pl => Sys2Proof.Machine.execAckFlux p pl s
  | .tcSample c conv => Sys2Proof.Machine.execTcSample c conv s
  | .tcOpen c => Sys2Proof.Machine.execTcOpen c s
  | .halfCycle => Sys2Proof.Machine.execHalfCycle s
  | .mainsSync => Sys2Proof.Machine.execMainsSync s
  | .ackHeater p pl => Sys2Proof.Machine.execAckHeater p pl s
  | .pyroSample current => Sys2Proof.Machine.execPyroSample current s
  | .parkTimeTick => Sys2Proof.Machine.execParkTimeTick s
  | .potMoltenSet => Sys2Proof.Machine.execPotMoltenSet s
  | .pumpRampStep => Sys2Proof.Machine.execPumpRampStep s
  | .pumpFeedbackChange p present => Sys2Proof.Machine.execPumpFeedbackChange p present s
  | .minimumOffExpiry p => Sys2Proof.Machine.execMinimumOffExpiry p s
  | .pumpFault p => Sys2Proof.Machine.execPumpFault p s
  | .waveUp p pl => Sys2Proof.Machine.execWaveUp p pl s
  | .waveDown p pl => Sys2Proof.Machine.execWaveDown p pl s
  | .ackPump p pl => Sys2Proof.Machine.execAckPump p pl s
  | .settled => Sys2Proof.Machine.execSettled s
  | .levelIntervalExpiry => Sys2Proof.Machine.execLevelIntervalExpiry s
  | .measurementStart contact home => Sys2Proof.Machine.execMeasurementStart contact home s
  | .probeDownStep contact home => Sys2Proof.Machine.execProbeDownStep contact home s
  | .probeContactLost => Sys2Proof.Machine.execProbeContactLost s
  | .levelResult => Sys2Proof.Machine.execLevelResult s
  | .probeUpStep home => Sys2Proof.Machine.execProbeUpStep home s
  | .levelGap => Sys2Proof.Machine.execLevelGap s
  | .feedStep => Sys2Proof.Machine.execFeedStep s
  | .feedEnd => Sys2Proof.Machine.execFeedEnd s
  | .meltSettleEnd => Sys2Proof.Machine.execMeltSettleEnd s
  | .budgetRefill => Sys2Proof.Machine.execBudgetRefill s
  | .wireOut => Sys2Proof.Machine.execWireOut s
  | .ackLevel p pl => Sys2Proof.Machine.execAckLevel p pl s
  | .hoodSample h current fan => Sys2Proof.Machine.execHoodSample h current fan s
  | .fanStop h => Sys2Proof.Machine.execFanStop h s
  | .flowLoss h => Sys2Proof.Machine.execFlowLoss h s
  | .flowWarn h => Sys2Proof.Machine.execFlowWarn h s
  | .hoodRecovery h => Sys2Proof.Machine.execHoodRecovery h s
  | .hoodProven h => Sys2Proof.Machine.execHoodProven h s
  | .extractionEscalated h => Sys2Proof.Machine.execExtractionEscalated h s
  | .ackHood p pl => Sys2Proof.Machine.execAckHood p pl s
  | .estopChange active => Sys2Proof.Machine.execEstopChange active s
  | .warm p pl => Sys2Proof.Machine.execWarm p pl s
  | .cool p pl => Sys2Proof.Machine.execCool p pl s
  | .start p pl => Sys2Proof.Machine.execStart p pl s
  | .stop p pl => Sys2Proof.Machine.execStop p pl s
  | .hold p pl => Sys2Proof.Machine.execHold p pl s
  | .resume p pl => Sys2Proof.Machine.execResume p pl s
  | .trip p pl => Sys2Proof.Machine.execTrip p pl s
  | .clear p pl => Sys2Proof.Machine.execClear p pl s
  | .restart p pl => Sys2Proof.Machine.execRestart p pl s
  | .ackTrack p pl => Sys2Proof.Machine.execAckTrack p pl s
  | .silence p pl => Sys2Proof.Machine.execSilence p pl s
  | .popOutcome p pl => Sys2Proof.Machine.execPopOutcome p pl s
  | .peekOutcome p pl => Sys2Proof.Machine.execPeekOutcome p pl s
  | .readIncidents p pl => Sys2Proof.Machine.execReadIncidents p pl s
  | .clearIncidents p pl => Sys2Proof.Machine.execClearIncidents p pl s
  | .setParam p pl => Sys2Proof.Machine.execSetParam p pl s
  | .readParam p pl => Sys2Proof.Machine.execReadParam p pl s
  | .setEventMask p pl => Sys2Proof.Machine.execSetEventMask p pl s
  | .getEvents p pl => Sys2Proof.Machine.execGetEvents p pl s
  | .readStatus p pl => Sys2Proof.Machine.execReadStatus p pl s
  | .readAdmission p pl => Sys2Proof.Machine.execReadAdmission p pl s
  | .readTrack p pl => Sys2Proof.Machine.execReadTrack p pl s
  | .readBoard p pl => Sys2Proof.Machine.execReadBoard p pl s
  | .readGeometry p pl => Sys2Proof.Machine.execReadGeometry p pl s
  | .readProfile p pl => Sys2Proof.Machine.execReadProfile p pl s
  | .readRecipe p pl => Sys2Proof.Machine.execReadRecipe p pl s
  | .readFlux p pl => Sys2Proof.Machine.execReadFlux p pl s
  | .readHeater p pl => Sys2Proof.Machine.execReadHeater p pl s
  | .readPumps p pl => Sys2Proof.Machine.execReadPumps p pl s
  | .readLevel p pl => Sys2Proof.Machine.execReadLevel p pl s
  | .readExtraction p pl => Sys2Proof.Machine.execReadExtraction p pl s
  | .readAlarms p pl => Sys2Proof.Machine.execReadAlarms p pl s
  | .unknownCommand p code pl => Sys2Proof.Machine.execUnknownCommand p code pl s
  | .frameCrcError p last => Sys2Proof.Machine.execFrameCrcError p last s
  | .frameTimeout p => Sys2Proof.Machine.execFrameTimeout p s
  | .frameDiscarded p last => Sys2Proof.Machine.execFrameDiscarded p last s
  | .responseSent p => Sys2Proof.Machine.execResponseSent p s
  | .powerOnReset pins => Sys2Proof.Machine.execPowerOnReset pins s
  | .pinReset pins => Sys2Proof.Machine.execPinReset pins s
  | .byteReceived p b framingError => Sys2Proof.Machine.execByteReceived p b framingError s
  | .alarmBlinkPhase => Sys2Proof.Machine.execAlarmBlinkPhase s

end Sys2Proof.Machine
end

