-- ==== Sys2Proof/Machine/Tick.lean ====
section
/-! DEFINITION. The passing of time: 0.1 ms at a step with no command waiting. Only TIME_MS and the running timers move;
what falls due at a time is taken by its own row of the opcode table (DESIGN CHOICE, notes/assumptions/3.md). -/

namespace Sys2Proof.Machine

/-! ## Timers that count tenths of a millisecond -/

/-- A valve generator's phase a tenth later (R66). -/
def GenPhase.tick : GenPhase → GenPhase
  | .idle => .idle
  | .on n off => .on (n - 1) off
  | .holdoff n => .holdoff (n - 1)

/-- The probe and feed timers a tenth later (R135, R136, R147), and the qualify time of WIRE_END, which runs while the input is
held active (R149); an advance's evaluation of the start conditions is over (R141). -/
def Lvu.tick (wireHeld : Bool) (u : Lvu) : Lvu :=
  { u with
    pace := u.pace + 1
    contactTimer := if u.probe == .contact then u.contactTimer + 1 else u.contactTimer
    feedPace := u.feedPace + 1
    wireTimer := if wireHeld then u.wireTimer + 1 else 0
    startDue := false }

/-- The next level of WIRE_END is read; the qualify time has run on where the input was active and is so still (R149). -/
def State.readWire (s : State) : State :=
  { (s.modPins fun p => { p with wireEnd := Config.wireEnd s.wireReads }).modLvu
      (Lvu.tick (s.pins.wireEnd && Config.wireEnd s.wireReads)) with wireReads := s.wireReads + 1 }

/-- The time since the last byte of a frame in progress, a tenth later (R196). -/
def PortState.tick (u : PortState) : PortState := { u with gap := if u.rx.isSome then u.gap + 1 else u.gap }

/-- Every tenth of a millisecond. -/
def State.tickTenth (s : State) : State :=
  (s.modFdu fun u => { u with lanes := u.lanes.map fun x => { x with gen := x.gen.tick } }).readWire.modScp
    fun u => { u with ports := u.ports.map PortState.tick }

/-! ## Timers that count milliseconds -/

/-- The settle timer a millisecond later: it runs while every settle condition holds and stops at the settle time (R60). -/
def State.settleTick (s : State) : Nat :=
  match s.rps.settle, s.activeProfile with
  | .settling, some p => if s.settleOk then min (s.rps.settleTimer + 1) (p.settleTime * 1000) else 0
  | _, _ => s.rps.settleTimer

/-- A pump's timers a millisecond later (R119, R125). -/
def PumpState.tick (u : PumpState) : PumpState :=
  { u with
    minOff := if u.stage == .cooldown then u.minOff + 1 else u.minOff
    absent := if decide (0 < u.reference) && !u.feedback then u.absent + 1 else 0
    fresh := false }

/-- The interval and melt settle timers a millisecond later (R140, R147). -/
def Lvu.tickMs (u : Lvu) : Lvu :=
  { u with
    interval := u.interval.map (· + 1)
    settleTimer := if u.feeder == .settling then u.settleTimer + 1 else u.settleTimer }

/-- Every millisecond: TIME_MS and the timers that follow it. -/
def State.tickMs (s : State) : State :=
  ((((({ s with timeMs := s.timeMs + 1, tenth := 0 }.modAdu fun u => { u with grace := u.grace.map (· + 1) }).modRps
    fun u => { u with settleTimer := s.settleTick }).modWpu fun u => { u with pumps := u.pumps.map PumpState.tick }).modLvu
      Lvu.tickMs))

/-- The part 0.1 ms later. -/
def State.tick (s : State) : State :=
  if s.tickTenth.tenth < 9 then { s.tickTenth with tenth := s.tickTenth.tenth + 1 } else s.tickTenth.tickMs

end Sys2Proof.Machine
end

