-- ==== Sys2Proof/Safety.lean ====
section
/-! DEFINITION. What a safe state is, and the words that statements use: the invariants that the manual's whole-machine
sentences give, the idle port, and the part of the state that no reaction to an event changes. -/

namespace Sys2Proof.Machine

/-! ## Invariants -/

/-- R10, R28, R190, R193: the board table, the table with the outcome queue, the ticket queue with its reserved place and
the incident list keep their limits, and only the youngest record may be in ENTERING. -/
structure State.Capacity (s : State) : Prop where
  table : s.ctr.table.length ≤ Config.tableMax
  boards : s.ctr.table.length + s.oq.outcomes.length ≤ Config.boardsMax
  tickets : s.adu.queue.length + (if s.placeReserved then 1 else 0) ≤ Config.ticketMax
  incidents : s.inl.incidents.length ≤ Config.incidentMax
  entering : ∀ r ∈ s.ctr.table.dropLast, r.stage ≠ .entering

/-- R53: a recipe's reference count is the number of tickets plus board records that name it; a record that names a recipe
is a bound one. -/
structure State.RefsCounted (s : State) : Prop where
  counts : ∀ i : Fin 32, s.rps.refs[i] =
    s.adu.queue.countP (fun k => k.recipe == i) + s.ctr.table.countP (fun r => r.recipe == some i)
  bound : ∀ r ∈ s.ctr.table, r.recipe.isSome = r.origin.isSome

/-- A pump at rest: OFF or COOLDOWN. -/
def PumpState.AtRest (u : PumpState) : Prop := u.stage = .off ∨ u.stage = .cooldown

/-- R124: a pump at rest has its reference at 0, and while POT_MOLTEN is false every pump is at rest. -/
structure State.PumpsNeedMelt (s : State) : Prop where
  resting : ∀ p : Pump, (s.wpu.pumps.get p).AtRest → (s.wpu.pumps.get p).reference = 0
  molten : s.wpu.molten = false → ∀ p : Pump, (s.wpu.pumps.get p).AtRest

/-- A channel at zero (R94, R102). -/
def Heater.AtZero (u : Heater) : Prop := u.power = 0 ∧ u.integral = 0 ∧ u.firing = 0 ∧ u.ssr = false

/-- R94, R99, R102: a channel is at zero while HEAT_EN is released, MAINS_SYNC is latched, or TC_OPEN or OVERTEMP is latched
on it; every firing accumulator holds 0 to 1999 and every power 0 to 1000, Pmax being at most 1000. -/
structure State.HeatersSafe (s : State) : Prop where
  off : ∀ c : Channel, s.fires c = false → (s.hcu.ch.get c).AtZero
  firing : ∀ c : Channel, (s.hcu.ch.get c).firing ≤ Config.firingMax
  power : ∀ c : Channel, (s.hcu.ch.get c).power ≤ 1000
  pmax : ∀ c : Channel, (s.params.gains.get c).pmax ≤ 1000

/-- R66, R72: no flux valve is open while the process state is TRIP or the inhibit mode is CUT, and no owed counter is above
15. -/
structure State.ValvesSafe (s : State) : Prop where
  closed : (s.psc.state.isTrip = true ∨ s.fdu.inhibit = some .cut) → ∀ l : Fin 8, (s.fdu.lanes[l]).valveOpen = false
  owed : ∀ l : Fin 8, (s.fdu.lanes[l]).owed ≤ Config.owedMax

/-- At most one flag of a hood's ladder is latched, and every count is at most 1200 (R157, R158). -/
def HoodState.Ladder (u : HoodState) : Prop :=
  (u.fanStop = true → u.flowLoss = false ∧ u.flowWarn = false) ∧ (u.flowLoss = true → u.flowWarn = false) ∧
    u.warn ≤ Config.hoodCountMax ∧ u.loss ≤ Config.hoodCountMax ∧ u.fanOff ≤ Config.hoodCountMax ∧
    u.good ≤ Config.hoodCountMax

/-- R157, R158 on every hood. -/
def State.HoodsSafe (s : State) : Prop := ∀ h : Hood, (s.exm.hoods.get h).Ladder

/-- R34: ADMIT is asserted exactly while the nine conditions of Table 2.3 hold. -/
def State.AdmitFollows (s : State) : Prop := s.adu.admitOn = s.admitHolds

/-- R82: the flux inhibit stands in the mode that its causes call for (Table 4.7). -/
def State.InhibitFollows (s : State) : Prop := s.fdu.inhibit = s.inhibitCause

/-- R57: in STANDBY and TRIP the settle status is UNSETTLED. -/
def State.SettleHeld (s : State) : Prop :=
  (s.psc.state = .standby ∨ s.psc.state.isTrip = true) → s.rps.settle = .unsettled

/-! ## Words that statements use -/

/-- The row of the opcode table that is the completion of a frame of command `c`. -/
def Cmd.instr (c : Cmd) (p : Port) (pl : List Byte) : Instr :=
  match c with
  | .addTicket => .addTicket p pl
  | .withdrawTicket => .withdrawTicket p pl
  | .flushTickets => .flushTickets p pl
  | .setDefault => .setDefault p pl
  | .loadProfile => .loadProfile p pl
  | .eraseProfile => .eraseProfile p pl
  | .selectProfile => .selectProfile p pl
  | .loadRecipe => .loadRecipe p pl
  | .eraseRecipe => .eraseRecipe p pl
  | .setGeometry => .setGeometry p pl
  | .setNozzle => .setNozzle p pl
  | .refillFlux => .refillFlux p pl
  | .warm => .warm p pl
  | .cool => .cool p pl
  | .start => .start p pl
  | .stop => .stop p pl
  | .hold => .hold p pl
  | .resume => .resume p pl
  | .trip => .trip p pl
  | .clear => .clear p pl
  | .restart => .restart p pl
  | .waveUp => .waveUp p pl
  | .waveDown => .waveDown p pl
  | .ackTrack => .ackTrack p pl
  | .ackFlux => .ackFlux p pl
  | .ackHeater => .ackHeater p pl
  | .ackPump => .ackPump p pl
  | .ackLevel => .ackLevel p pl
  | .ackHood => .ackHood p pl
  | .silence => .silence p pl
  | .popOutcome => .popOutcome p pl
  | .clearIncidents => .clearIncidents p pl
  | .setParam => .setParam p pl
  | .setEventMask => .setEventMask p pl
  | .getEvents => .getEvents p pl
  | .readStatus => .readStatus p pl
  | .readAdmission => .readAdmission p pl
  | .readTrack => .readTrack p pl
  | .readBoard => .readBoard p pl
  | .readGeometry => .readGeometry p pl
  | .readProfile => .readProfile p pl
  | .readRecipe => .readRecipe p pl
  | .readFlux => .readFlux p pl
  | .readHeater => .readHeater p pl
  | .readPumps => .readPumps p pl
  | .readLevel => .readLevel p pl
  | .readExtraction => .readExtraction p pl
  | .readAlarms => .readAlarms p pl
  | .readParam => .readParam p pl
  | .peekOutcome => .peekOutcome p pl
  | .readIncidents => .readIncidents p pl

/-- Port `p` takes a frame of command `c` at once: it is idle, the command is in its rights, has the payload length, and is
available in the process state (R197 to R199). -/
structure State.Accepts (s : State) (c : Cmd) (p : Port) (pl : List Byte) : Prop where
  waiting : (s.scp.ports.get p).waiting = none
  answering : (s.scp.ports.get p).answering = none
  rights : c.permits p = true
  length : c.lengthOk pl.length = true
  available : c.available s.psc.state = true

/-- The row completes a frame on a port, or may take one: the port commands, UNKNOWN_COMMAND, BYTE_RECEIVED and
RESPONSE_SENT. -/
def takesFrame : Instr → Bool
  | .encoderCount _ _ => false
  | .quadratureGlitch => false
  | .speedWindowEnd => false
  | .stall => false
  | .entryLeadingEdge => false
  | .entryTrailingEdge => false
  | .exitLeadingEdge => false
  | .exitTrailingEdge => false
  | .admitGraceExpiry => false
  | .setGeometry _ _ => true
  | .addTicket _ _ => true
  | .withdrawTicket _ _ => true
  | .flushTickets _ _ => true
  | .setDefault _ _ => true
  | .loadProfile _ _ => true
  | .eraseProfile _ _ => true
  | .selectProfile _ _ => true
  | .loadRecipe _ _ => true
  | .eraseRecipe _ _ => true
  | .setNozzle _ _ => true
  | .refillFlux _ _ => true
  | .valveOnEnd _ => false
  | .holdoffEnd _ => false
  | .fluxPressureSample _ => false
  | .fluxPressure => false
  | .ackFlux _ _ => true
  | .tcSample _ _ => false
  | .tcOpen _ => false
  | .halfCycle => false
  | .mainsSync => false
  | .ackHeater _ _ => true
  | .pyroSample _ => false
  | .parkTimeTick => false
  | .potMoltenSet => false
  | .pumpRampStep => false
  | .pumpFeedbackChange _ _ => false
  | .minimumOffExpiry _ => false
  | .pumpFault _ => false
  | .waveUp _ _ => true
  | .waveDown _ _ => true
  | .ackPump _ _ => true
  | .settled => false
  | .levelIntervalExpiry => false
  | .measurementStart _ _ => false
  | .probeDownStep _ _ => false
  | .probeContactLost => false
  | .levelResult => false
  | .probeUpStep _ => false
  | .levelGap => false
  | .feedStep => false
  | .feedEnd => false
  | .meltSettleEnd => false
  | .budgetRefill => false
  | .wireOut => false
  | .ackLevel _ _ => true
  | .hoodSample _ _ _ => false
  | .fanStop _ => false
  | .flowLoss _ => false
  | .flowWarn _ => false
  | .hoodRecovery _ => false
  | .hoodProven _ => false
  | .extractionEscalated _ => false
  | .ackHood _ _ => true
  | .estopChange _ => false
  | .warm _ _ => true
  | .cool _ _ => true
  | .start _ _ => true
  | .stop _ _ => true
  | .hold _ _ => true
  | .resume _ _ => true
  | .trip _ _ => true
  | .clear _ _ => true
  | .restart _ _ => true
  | .ackTrack _ _ => true
  | .silence _ _ => true
  | .popOutcome _ _ => true
  | .peekOutcome _ _ => true
  | .readIncidents _ _ => true
  | .clearIncidents _ _ => true
  | .setParam _ _ => true
  | .readParam _ _ => true
  | .setEventMask _ _ => true
  | .getEvents _ _ => true
  | .readStatus _ _ => true
  | .readAdmission _ _ => true
  | .readTrack _ _ => true
  | .readBoard _ _ => true
  | .readGeometry _ _ => true
  | .readProfile _ _ => true
  | .readRecipe _ _ => true
  | .readFlux _ _ => true
  | .readHeater _ _ => true
  | .readPumps _ _ => true
  | .readLevel _ _ => true
  | .readExtraction _ _ => true
  | .readAlarms _ _ => true
  | .unknownCommand _ _ _ => true
  | .frameCrcError _ _ => false
  | .frameTimeout _ => false
  | .frameDiscarded _ _ => false
  | .responseSent _ => true
  | .powerOnReset _ => false
  | .pinReset _ => false
  | .byteReceived _ _ _ => true
  | .alarmBlinkPhase => false

/-- The head offset of a record at the advance that the next forward count makes (R2, R17). -/
def State.nextHead (s : State) (r : BoardRecord) : Int := (s.ctr.pos + 1 - r.entryPos).toInt

/-- The tail offset of a record with a length at the advance that the next forward count makes (R17). -/
def State.nextTail (s : State) (r : BoardRecord) : Option Int := r.length.map fun l => s.nextHead r - (l : Int)

/-- At the next advance the record is overlong (R16), leaves or jams at the exit (R22, R24), or is past Px + w in TRAVEL
(R23). -/
def State.strays (s : State) (r : BoardRecord) : Bool :=
  (r.stage == .entering && s.nextHead r == 6001) ||
    (r.stage == .exiting && s.nextTail r == some ((s.ctr.map.px : Int) + (s.ctr.map.w : Int) + 1)) ||
    (r.stage == .travel && decide ((s.ctr.map.px : Int) + (s.ctr.map.w : Int) < s.nextHead r))

/-- At the next advance a PENDING or ACTIVE record reaches the start or the end of its flux window (Table 1.4). -/
def State.meetsWindow (s : State) (r : BoardRecord) : Bool :=
  (r.flux == .pending || r.flux == .active) && match s.recipeOf r with
    | some c => s.nextHead r == (s.ctr.map.pf : Int) + (c.leadIn : Int) ||
        s.nextTail r == some ((s.ctr.map.pf : Int) - (c.leadOut : Int))
    | none => false

/-- Entry positions are pairwise different, as they rise along the table (R11). -/
def State.KeysDiffer (s : State) : Prop := (s.ctr.table.map BoardRecord.entryPos).Nodup

/-- What only commands and a power-on reset set: the parameters, the station map, the stores, the nozzle records and the
default designation. -/
def State.settings (s : State) : Params × (StationMap × Bool) × (Vector (Option Profile) 8 × Vector (Option Recipe) 32) ×
    Vector Nozzle 8 × Option (Fin 32) :=
  (s.params, (s.ctr.map, s.ctr.mapValid), (s.rps.profiles, s.rps.recipes), s.fdu.nozzles, s.adu.default)

/-- A channel without what a reaction may change: its integral, power, firing accumulator, SSR drive and OVERTEMP. -/
def Heater.fixed (u : Heater) : Heater := { u with integral := 0, power := 0, firing := 0, ssr := false, overtemp := false }

/-- A pump without what a reaction may change: its motion. -/
def PumpState.fixed (u : PumpState) : PumpState :=
  { u with stage := .off, reference := 0, target := 0, minOff := 0, absent := 0, fresh := false }

/-- A hood without what a reaction may change: the counts, loss-active and timer that STANDBY and TRIP clear. -/
def HoodState.fixed (u : HoodState) : HoodState :=
  { u with warn := 0, loss := 0, fanOff := 0, lossActive := false, timer := 0 }

/-- A record without what a reaction may change: its flux fields and its flags. -/
def BoardRecord.fixed (r : BoardRecord) : BoardRecord :=
  { r with flux := .notRequired, doses := [], flags := BoardFlags.empty }

/-- A port without its event set. -/
def PortState.fixed (u : PortState) : PortState := { u with events := 0#6 }

/-- The state without what the reactions to an event may change: the process state, ADMIT and its grace, the active profile
and settle, the lanes, qualify count and inhibit, the heaters' powers and OVERTEMP, the pumps' motion and order, the probe's
motion and the feeder, the hoods' transient counts, the records' flux fields and flags, the stall timer, the alarm lines, the
incident list and the event sets. Two states with the same fixed part differ in those things alone. -/
def State.fixed (s : State) : State :=
  { s with
    ctr := { s.ctr with table := s.ctr.table.map BoardRecord.fixed, stallTimer := 0 }
    adu := { s.adu with admitOn := false, grace := none }
    rps := { s.rps with active := none, settle := .unsettled, settleTimer := 0 }
    fdu := { s.fdu with lanes := Vector.replicate 8 Lane.initial, qualify := 0, inhibit := none }
    hcu := { s.hcu with ch := s.hcu.ch.map Heater.fixed }
    wpu := { s.wpu with orderUp := false, pumps := s.wpu.pumps.map PumpState.fixed, notReadySeen := false }
    lvu := { s.lvu with
      probe := .parked, steps := 0, pace := 0, contactTimer := 0, afterResult := false, dirUp := false, unread := false
      feeder := .idle, settleTimer := 0 }
    exm := { hoods := s.exm.hoods.map HoodState.fixed }
    psc := { s.psc with state := .standby }
    aou := { lines := ⟨⟨false, false⟩, ⟨false, false⟩⟩ }
    inl := { incidents := [], counter := 0 }
    scp := { ports := s.scp.ports.map PortState.fixed } }

end Sys2Proof.Machine
end

