-- ==== Sys2Proof/Certificates/Slice0/Obligations.lean ====
section
/-! DEFINITION. The statements about the part. `State.finish` is the model's name for what follows an event before it ends
(log 9); `ReactionsKeepFixedPart` and `QuietReactionsOnlyFollowLines` say what it can change. -/

section

open Sys2Proof Sys2Proof.Machine

/-! ## The step and the whole part -/

/-- A step with a command at the front of the queue is that command's meaning on the state with the queue's rest. The queue and
its front are the model's own (DESIGN CHOICE, log 6). -/
def Obligations.StepRunsFrontCommand : Prop :=
  ∀ (c : Instr) (s : State), step { s with pending := c :: s.pending } = exec c s

/-- A step on an empty queue is 0.1 ms of time: TIME_MS rises by one at each tenth such step, and nothing but timers and
the level of WIRE_END moves. Each tenth of a millisecond that level is read, the qualify time runs where it was active and is so
still, and the on and off times left of the valves, the probe and feed paces, the contact dwell and the gap of a frame in progress move; each millisecond the grace timer, the settle timer (SETTLING with every settle
condition, up to the settle time), the minimum-off and feedback-absent timers, the level interval and the melt settle. That time
passes so is the model's choice (log 3), as are that the level is a free value (log 12) and the notes `fresh` and `startDue` (logs
28, 13). -/
def Obligations.EmptyQueuePassesTenth : Prop :=
  ∀ s : State, s.pending = [] → ∃ t, step s = .next t ∧ t.pending = [] ∧ t.wireReads = s.wireReads + 1 ∧
    t.pins = { s.pins with wireEnd := Config.wireEnd s.wireReads } ∧
    (s.tenth < 9 → t.timeMs = s.timeMs ∧ t.tenth = s.tenth + 1 ∧ t.adu = s.adu ∧ t.rps = s.rps ∧ t.wpu = s.wpu ∧
      t.lvu.interval = s.lvu.interval ∧ t.lvu.settleTimer = s.lvu.settleTimer) ∧
    (9 ≤ s.tenth → t.timeMs = s.timeMs + 1 ∧ t.tenth = 0 ∧
      t.adu = { s.adu with grace := s.adu.grace.map (· + 1) } ∧
      t.rps = { s.rps with settleTimer := t.rps.settleTimer } ∧
      (s.rps.settle ≠ .settling → t.rps.settleTimer = s.rps.settleTimer) ∧
      (∀ q, s.rps.settle = .settling → s.activeProfile = some q →
        t.rps.settleTimer = if s.settleOk then min (s.rps.settleTimer + 1) (q.settleTime * 1000) else 0) ∧
      t.wpu = { s.wpu with pumps := t.wpu.pumps } ∧
      (∀ p, (t.wpu.pumps.get p) = { s.wpu.pumps.get p with
        minOff := if (s.wpu.pumps.get p).stage = .cooldown then (s.wpu.pumps.get p).minOff + 1 else (s.wpu.pumps.get p).minOff
        absent := if 0 < (s.wpu.pumps.get p).reference ∧ (s.wpu.pumps.get p).feedback = false
          then (s.wpu.pumps.get p).absent + 1 else 0
        fresh := false }) ∧
      t.lvu.interval = s.lvu.interval.map (· + 1) ∧
      t.lvu.settleTimer = if s.lvu.feeder = .settling then s.lvu.settleTimer + 1 else s.lvu.settleTimer) ∧
    t.params = s.params ∧ t.ctr = s.ctr ∧ t.hcu = s.hcu ∧ t.exm = s.exm ∧ t.psc = s.psc ∧ t.aou = s.aou ∧ t.oq = s.oq ∧
    t.inl = s.inl ∧ t.fdu = { s.fdu with lanes := t.fdu.lanes } ∧
    (∀ l : Fin 8, (t.fdu.lanes[l]) = { s.fdu.lanes[l] with gen := match (s.fdu.lanes[l]).gen with
        | .idle => .idle
        | .on left off => .on (left - 1) off
        | .holdoff left => .holdoff (left - 1) } ∧
      (t.fdu.lanes[l]).valveOpen = (s.fdu.lanes[l]).valveOpen) ∧
    t.lvu = { s.lvu with
      pace := s.lvu.pace + 1, feedPace := s.lvu.feedPace + 1, startDue := false
      wireTimer := if s.pins.wireEnd = true ∧ t.pins.wireEnd = true then s.lvu.wireTimer + 1 else 0
      contactTimer := if s.lvu.probe = .contact then s.lvu.contactTimer + 1 else s.lvu.contactTimer
      interval := t.lvu.interval, settleTimer := t.lvu.settleTimer } ∧
    ∀ p, (t.scp.ports.get p) = { s.scp.ports.get p with
      gap := if (s.scp.ports.get p).rx = none then (s.scp.ports.get p).gap else (s.scp.ports.get p).gap + 1 }

/-- What a power-on reset leaves in every block, whatever the state before, with the pins at `pins`: the values that the
manual's reset tables give, and every parameter of Table 11.5 at its default. The model's choices in it are the waiting commands
kept (log 38), the pump feedbacks from the pins, the fan feedbacks absent and a hood's values in force (logs 16, 8), PRB_DIR up,
the notes `checked`, `supervised`, `edgeSeen`, `counted`, `notReadySeen`, `unread` and `startDue` (log 16), and the event sets
empty also where ESTOP_N is active and the reset enters TRIP with its incident (DEDUCED, log 18). -/
def Obligations.PowerOnResetValues : Prop :=
  ∀ (s : State) (pins : InputPins), ∃ t, exec (.powerOnReset pins) s = .next t ∧ t.pending = s.pending ∧
    t.timeMs = 0 ∧ t.tenth = 0 ∧ t.wireReads = s.wireReads ∧ t.pins = pins ∧
    (∀ e ∈ ([(1, [2000]), (2, [200]), (3, [150]), (4, [300]), (5, [250000]), (6, [1]), (7, [40, 40, 40, 40]),
      (8, [12, 12, 12, 12]), (9, [1000, 1000, 1000, 1000]), (10, [300]), (11, [2]), (12, [150]), (13, [120]), (14, [120]),
      (15, [100]), (16, [5]), (17, [150]), (18, [300]), (19, [60]), (20, [90]), (21, [1500]), (22, [40]), (23, [0]),
      (24, [-30]), (25, [-60]), (26, [32]), (27, [200]), (28, [1000]), (29, [20]), (30, [30]), (31, [1, 1, 1]),
      (32, [150, 150, 150]), (33, [80, 80, 80]), (34, [3, 3, 3]), (35, [1, 2, 3]), (36, [180, 180, 180]), (37, [10]),
      (38, [0x7F, 0x45]), (39, [0, 2]), (40, [0, 1])] : List (Nat × List Int)),
      (∀ index, (paramOf e.1 index).isSome = decide (index < e.2.length)) ∧
      ∀ index k, paramOf e.1 index = some k → e.2[index]? = some (k.get t.params)) ∧
    t.ctr = ⟨pins.encA, pins.encB, 0, 0, 0, false, 0, 0, ⟨0, 0, 0, 0, 0, 0, 0, 0, 0, 0, 0, 0, 0⟩, false, [], 0, false,
      pins.entryBlocked, pins.exitBlocked⟩ ∧ t.ctr.excursion = 0 ∧
    t.adu = ⟨[], none, false, none⟩ ∧
    t.rps = ⟨Vector.replicate 8 none, Vector.replicate 32 none, Vector.replicate 32 0, none, .unsettled, 0⟩ ∧
    t.fdu = ⟨Vector.replicate 8 ⟨40, true, 20, 20⟩, Vector.replicate 8 ⟨0, 0, none, false, .idle⟩, .none, false, 0, false,
      false, 0, none⟩ ∧
    (∀ c, (t.hcu.ch.get c).sample = .none ∧ (t.hcu.ch.get c).invalid = 0 ∧ (t.hcu.ch.get c).AtZero ∧
      (t.hcu.ch.get c).tcOpen = false ∧ (t.hcu.ch.get c).overtemp = false) ∧
    t.hcu = ⟨t.hcu.ch, 0, 0, false, false, .none⟩ ∧
    t.wpu = ⟨false, none, none, false, ⟨⟨.off, 0, 0, 0, 0, false, pins.runChip, false⟩,
      ⟨.off, 0, 0, 0, 0, false, pins.runMain, false⟩⟩, true⟩ ∧
    t.lvu = { (State.reset.lvu : Lvu) with
      probe := if pins.probeHome then .parked else .ascending, steps := 0, contactTimer := 0, afterResult := false
      dirUp := true, unread := false, startDue := false, last := none, interval := some 0, request := none, gap := false
      feeder := .idle, settleTimer := 0, budget := 1000, high := false, low := false, critical := false, probeFault := false
      feedBudget := false, wireOut := false, wireTimer := 0, pace := t.lvu.pace, feedPace := t.lvu.feedPace
      target := t.lvu.target } ∧
    (∀ h, t.exm.hoods.get h =
      ⟨.none, false, false, 0, 0, 0, 0, 0, false, false, false, false, false, 0, false, 3, 10, 180⟩) ∧
    t.psc = ⟨if pins.estopActive then .trip .estop else .standby, pins.estopActive⟩ ∧
    (∀ l, (t.aou.lines.get l).silenced = false ∧ (t.aou.lines.get l).conducting = t.lineConducts l) ∧ t.oq = ⟨[], 0⟩ ∧
    t.inl = (if pins.estopActive then ⟨[⟨1, 0, .stateTrip, none, none, some 1⟩], 1⟩ else ⟨[], 0⟩) ∧
    ∀ p, t.scp.ports.get p = ⟨none, 0, none, none, 0#6, match p with | .m => 0x07#6 | .t => 0x3F#6 | .l => 0x08#6⟩

/-- `State.reset` meets every invariant that the statements below say each step keeps. -/
def Obligations.ResetMeetsInvariants : Prop :=
  State.reset.Capacity ∧ State.reset.RefsCounted ∧ State.reset.PumpsNeedMelt ∧ State.reset.HeatersSafe ∧
    State.reset.ValvesSafe ∧ State.reset.HoodsSafe ∧ State.reset.AdmitFollows ∧ State.reset.InhibitFollows ∧
    State.reset.SettleHeld

/-- Every command and event completes in every state, and none touches the queue of waiting commands (the model's choice for the
resets, DESIGN CHOICE, log 38). But for a power-on reset, none moves TIME_MS, and one that brings no frame leaves the parameters,
the station map, the stores, the nozzle records and the default designation as they are. -/
def Obligations.EveryCommandCompletes : Prop :=
  ∀ (i : Instr) (s : State), ∃ t, exec i s = .next t ∧ t.pending = s.pending ∧
    ((∀ pins, i ≠ .powerOnReset pins) → t.timeMs = s.timeMs ∧ (takesFrame i = false → t.settings = s.settings))

/-! ## Invariants that every step keeps -/

/-- The board table, the table with the outcome queue, the ticket queue with its reserved place and the incident list keep
their limits, and only the youngest record may be in ENTERING. -/
def Obligations.StepKeepsCapacity : Prop := ∀ s t : State, s.Capacity → step s = .next t → t.Capacity

/-- Each recipe's reference count stays the number of tickets and board records that name it. -/
def Obligations.StepKeepsReferenceCounts : Prop := ∀ s t : State, s.RefsCounted → step s = .next t → t.RefsCounted

/-- No pump reference is above zero while POT_MOLTEN is false. -/
def Obligations.StepKeepsPumpsAtRestWithoutMelt : Prop :=
  ∀ s t : State, s.PumpsNeedMelt → step s = .next t → t.PumpsNeedMelt

/-- A channel stays at power 0, integral 0, accumulator 0 and drive OFF while HEAT_EN is released, MAINS_SYNC is latched or a
flag is latched on it, and every accumulator stays from 0 to 1999. -/
def Obligations.StepKeepsHeatersSafe : Prop := ∀ s t : State, s.HeatersSafe → step s = .next t → t.HeatersSafe

/-- No flux valve is open in TRIP or under CUT, and no owed counter passes 15. -/
def Obligations.StepKeepsValvesSafe : Prop := ∀ s t : State, s.ValvesSafe → step s = .next t → t.ValvesSafe

/-- At most one of FAN_STOP, FLOW_LOSS and FLOW_WARN stands on a hood, and every count of a hood saturates at 1200. -/
def Obligations.StepKeepsHoodLadder : Prop := ∀ s t : State, s.HoodsSafe → step s = .next t → t.HoodsSafe

/-- ADMIT is asserted exactly while its nine conditions hold, the flux inhibit stands in the mode its causes call for, and in
STANDBY and TRIP the settle status is UNSETTLED. The reference counts are a premise of the first: they keep the next recipe
from being erased. -/
def Obligations.StepKeepsLinesTrue : Prop :=
  ∀ s t : State, s.RefsCounted → step s = .next t →
    (s.AdmitFollows → t.AdmitFollows) ∧ (s.InhibitFollows → t.InhibitFollows) ∧ (s.SettleHeld → t.SettleHeld)

/-! ## What follows an event -/

/-- The reactions that follow an event change only the process state, ADMIT and its grace, the active profile and settle, the
lanes, the qualify count and inhibit, the heaters' powers and OVERTEMP, the pumps' motion and order, the probe's motion and the
feeder, the hoods' transient counts, the records' flux fields and flags, the stall timer, the alarm lines, the incident list and
the event sets (`State.fixed`). -/
def Obligations.ReactionsKeepFixedPart : Prop := ∀ (s : State) (edge : Bool), (s.react edge).fixed = s.fixed

/-- What follows an event. Where no transition is called for, only ADMIT, the alarm lines, the stall timer's hold and the note of
the wave follow the state; a release of ADMIT starts the grace from 0, but IDLE in TRIP, at the entry edge's own record and with
grace 0, and each change of ADMIT is an event on every port. DRAIN with an empty table moves to READY, WARMING with SETTLED and
POT_MOLTEN to READY, RESUMING with the wave ready to its prior state, or READY for DRAIN with an empty table; READY and RUN with
an empty table switch to the next profile, with its incident and a settle restart; a settle condition that fails restarts the
settle; the inhibit's change to CUT closes every window and valve, turns owed pulses to shortfall and makes the ACTIVE records,
and the DONE ones that lose pulses, PARTIAL, with the number of both as FLUX_CUT's value (DEDUCED, log 29); and a measurement
without steady pumps or melt is abandoned. The order among them is the model's choice (log 9). -/
def Obligations.QuietReactionsOnlyFollowLines : Prop :=
  (∀ s : State, s.fdu.inhibit = s.inhibitCause → (s.lvu.measuring = false ∨ (s.pumpsSteady = true ∧ s.wpu.molten = true)) →
    ¬(s.psc.state = .drain ∧ s.ctr.table = []) → (s.rps.settle = .unsettled ∨ s.settleOk = true) →
    ¬(s.psc.state = .warming ∧ s.rps.settle = .settled ∧ s.wpu.molten = true) →
    (∀ q, s.psc.state = .hold .resuming q → s.waveReady = false) → s.switchTo = none →
    s.finish.adu.admitOn = s.admitHolds ∧ s.finish.adu.queue = s.adu.queue ∧ s.finish.adu.default = s.adu.default ∧
      (s.adu.admitOn = s.admitHolds → s.finish.adu = s.adu ∧ s.finish.scp = s.scp) ∧
      (s.adu.admitOn = true → s.admitHolds = false →
        s.finish.adu.grace = (if s.psc.state.isTrip = true ∨ s.params.admitGrace = 0 then none else some 0) ∧
        (s.react true).adu = { s.adu with admitOn := false, grace := none }) ∧
      (s.adu.admitOn = false → s.admitHolds = true → s.finish.adu.grace = none) ∧
      (s.adu.admitOn ≠ s.admitHolds → ∀ p, s.finish.scp.ports.get p =
        { s.scp.ports.get p with events := (s.scp.ports.get p).events ||| 0x02#6 }) ∧
      (∀ l, (s.finish.aou.lines.get l).conducting = s.lineConducts l ∧
        (s.finish.aou.lines.get l).silenced = (s.aou.lines.get l).silenced) ∧
      s.finish.ctr = { s.ctr with stallTimer := s.finish.ctr.stallTimer } ∧
      s.finish.ctr.stallTimer =
        (if s.psc.state.runOrDrain = true ∧ s.ctr.table ≠ [] then s.ctr.stallTimer else 0) ∧
      s.finish.wpu = { s.wpu with notReadySeen := s.wpu.notReadySeen || !s.waveReady } ∧
      s.finish.psc = s.psc ∧ s.finish.rps = s.rps ∧ s.finish.fdu = s.fdu ∧ s.finish.hcu = s.hcu ∧ s.finish.lvu = s.lvu ∧
      s.finish.exm = s.exm ∧ s.finish.oq = s.oq ∧ s.finish.inl = s.inl ∧ s.finish.params = s.params ∧
      s.finish.timeMs = s.timeMs ∧ s.finish.tenth = s.tenth ∧ s.finish.wireReads = s.wireReads ∧ s.finish.pending = s.pending) ∧
  ∀ s : State,
    let noSwitch := s.ctr.table ≠ [] ∨ s.nextProfile = none ∨ s.nextProfile = s.rps.active
    let told := fun e : BitVec 6 => ∀ p, (s.finish.scp.ports.get p).events &&& e = e
    (s.psc.state = .drain → s.ctr.table = [] → noSwitch → s.finish.psc.state = .ready ∧ told 0x01#6) ∧
    (s.psc.state = .warming → s.rps.settle = .settled → s.settleOk = true → s.wpu.molten = true → noSwitch →
      s.finish.psc.state = .ready ∧ told 0x01#6) ∧
    (∀ prior, s.psc.state = .hold .resuming prior → s.waveReady = true → noSwitch →
      s.finish.psc.state = (match prior with
        | .run => .run
        | .drain => if s.ctr.table = [] then .ready else .drain) ∧ told 0x05#6) ∧
    (∀ q, s.psc.state = .ready ∨ s.psc.state = .run → s.ctr.table = [] → s.nextProfile = some q → s.rps.active ≠ some q →
      s.finish.rps.active = some q ∧
      (∃ i ∈ s.finish.inl.incidents, i.code = .profileSwitch ∧ i.time = s.timeMs ∧ i.value = valueOf ((q.val : Nat) : Int)) ∧
      (s.finish.psc.state.isTrip = true ∨ (s.finish.rps.settle = .settling ∧ s.finish.rps.settleTimer = 0))) ∧
    (s.rps.settle ≠ .unsettled → s.settleOk = false → noSwitch →
      s.finish.rps.settle = .settling ∧ s.finish.rps.settleTimer = 0) ∧
    (s.inhibitCause = some .cut → s.fdu.inhibit ≠ some .cut →
      let owes := fun (r : BoardRecord) (l : Fin 8) =>
        (s.fdu.lanes[l]).owner == some r.entryPos && decide (0 < (s.fdu.lanes[l]).owed)
      let parted := fun r : BoardRecord => r.flux == .active || (r.flux == .done && allLanes.any (owes r))
      s.finish.fdu.inhibit = some .cut ∧
      (∀ l : Fin 8, (s.finish.fdu.lanes[l]).window = false ∧ (s.finish.fdu.lanes[l]).owed = 0 ∧
        (s.finish.fdu.lanes[l]).valveOpen = false) ∧
      s.finish.ctr.table.map (fun r => (r.entryPos, r.flux, r.flags.fluxDeviation, r.doses)) =
        s.ctr.table.map (fun r => (r.entryPos, if parted r then .partly else r.flux,
        r.flags.fluxDeviation || parted r || allLanes.any (owes r), r.doses.map fun d => { d with
          shortfall :=
            if r.flux = .active ∧ (s.fdu.nozzles[d.lane]).enabled = false then
              min ((s.fdu.nozzles[d.lane].quantum * 1000 / 2 + s.fluxDue r * r.sprayed) /
                (s.fdu.nozzles[d.lane].quantum * 1000)) 65535
            else if owes r d.lane then min (d.shortfall + (s.fdu.lanes[d.lane]).owed) 65535
            else d.shortfall })) ∧
      (s.ctr.table.any parted = true → ∃ i ∈ s.finish.inl.incidents, i.code = .fluxCut ∧ i.time = s.timeMs ∧
        i.value = valueOf ((s.ctr.table.countP parted : Nat) : Int))) ∧
    (s.lvu.measuring = true → s.pumpsSteady = false ∨ s.wpu.molten = false →
      s.finish.lvu = { s.finish.lvu with
        probe := if s.pins.probeHome then .parked else .ascending, steps := if s.pins.probeHome then 0 else 1
        contactTimer := 0, afterResult := false, last := s.lvu.last, request := s.lvu.request, gap := s.lvu.gap } ∧
      ∃ i ∈ s.finish.inl.incidents, i.code = .levelAbandoned ∧ i.time = s.timeMs ∧
        i.value = valueOf ((s.lvu.steps : Nat) : Int))

/-! ## The serial command ports -/

/-- The codes, rights, payload lengths and availability of Tables 11.2 and 11.3, the process states numbered in the column
order of Table 11.2; no other CMD byte is a command. -/
def Obligations.CommandTableMatchesManual : Prop :=
  let table : List (Byte × Cmd × List Port × List Nat × List Nat) :=
     [(0x20#8, .addTicket, [.m], [6], [0, 1, 2, 3, 4, 5]),
      (0x21#8, .withdrawTicket, [.m], [0], [0, 1, 2, 3, 4, 5, 6]),
      (0x22#8, .flushTickets, [.m, .t], [0], [0, 1, 2, 3, 4, 5, 6]),
      (0x23#8, .setDefault, [.t], [1], [0, 1, 2, 3, 4, 5, 6]),
      (0x24#8, .loadProfile, [.t], [20], [0, 1, 2, 3, 4, 5, 6]),
      (0x25#8, .eraseProfile, [.t], [1], [0, 1, 2, 3, 4, 5, 6]),
      (0x26#8, .selectProfile, [.t], [1], [0, 1, 2]),
      (0x27#8, .loadRecipe, [.t], [27], [0, 1, 2, 3, 4, 5, 6]),
      (0x28#8, .eraseRecipe, [.t], [1], [0, 1, 2, 3, 4, 5, 6]),
      (0x29#8, .setGeometry, [.m], [26], [0, 1, 2]),
      (0x2A#8, .setNozzle, [.t], [5], [0, 1, 2, 6]),
      (0x2B#8, .refillFlux, [.t], [4], [0, 1, 2, 3, 4, 5, 6]),
      (0x30#8, .warm, [.t], [0], [0]),
      (0x31#8, .cool, [.t], [0], [0, 1, 2]),
      (0x32#8, .start, [.t], [0], [2, 3]),
      (0x33#8, .stop, [.m, .t], [0], [3, 4, 5]),
      (0x34#8, .hold, [.m], [0], [3, 4, 5]),
      (0x35#8, .resume, [.m, .t], [0], [5]),
      (0x36#8, .trip, [.t], [0], [0, 1, 2, 3, 4, 5, 6]),
      (0x37#8, .clear, [.t], [0], [6]),
      (0x38#8, .restart, [.t], [1], [0]),
      (0x39#8, .waveUp, [.m, .t], [0], [1, 2, 3, 4]),
      (0x3A#8, .waveDown, [.m, .t], [0], [0, 1, 2, 3, 4]),
      (0x40#8, .ackTrack, [.m, .t], [0], [0, 1, 2, 3, 4, 5, 6]),
      (0x41#8, .ackFlux, [.t], [0], [0, 1, 2, 3, 4, 5, 6]),
      (0x42#8, .ackHeater, [.t], [1], [0, 1, 2, 3, 4, 5, 6]),
      (0x43#8, .ackPump, [.t], [0], [0, 1, 2, 3, 4, 5, 6]),
      (0x44#8, .ackLevel, [.t], [0], [0, 1, 2, 3, 4, 5, 6]),
      (0x45#8, .ackHood, [.t], [1], [0, 1, 2, 3, 4, 5, 6]),
      (0x46#8, .silence, [.t], [0], [0, 1, 2, 3, 4, 5, 6]),
      (0x50#8, .popOutcome, [.l, .t], [0, 4], [0, 1, 2, 3, 4, 5, 6]),
      (0x51#8, .clearIncidents, [.t], [0], [0, 1, 2, 3, 4, 5, 6]),
      (0x52#8, .setParam, [.t], [6], [0, 1, 2, 3, 4, 5, 6]),
      (0x53#8, .setEventMask, [.m, .t, .l], [1], [0, 1, 2, 3, 4, 5, 6]),
      (0x54#8, .getEvents, [.m, .t, .l], [0], [0, 1, 2, 3, 4, 5, 6]),
      (0x01#8, .readStatus, [.m, .t, .l], [0], [0, 1, 2, 3, 4, 5, 6]),
      (0x02#8, .readAdmission, [.m, .t, .l], [0], [0, 1, 2, 3, 4, 5, 6]),
      (0x03#8, .readTrack, [.m, .t, .l], [0], [0, 1, 2, 3, 4, 5, 6]),
      (0x04#8, .readBoard, [.m, .t, .l], [1], [0, 1, 2, 3, 4, 5, 6]),
      (0x05#8, .readGeometry, [.m, .t, .l], [0], [0, 1, 2, 3, 4, 5, 6]),
      (0x06#8, .readProfile, [.m, .t, .l], [1], [0, 1, 2, 3, 4, 5, 6]),
      (0x07#8, .readRecipe, [.m, .t, .l], [1], [0, 1, 2, 3, 4, 5, 6]),
      (0x08#8, .readFlux, [.m, .t, .l], [1], [0, 1, 2, 3, 4, 5, 6]),
      (0x09#8, .readHeater, [.m, .t, .l], [0], [0, 1, 2, 3, 4, 5, 6]),
      (0x0A#8, .readPumps, [.m, .t, .l], [0], [0, 1, 2, 3, 4, 5, 6]),
      (0x0B#8, .readLevel, [.m, .t, .l], [0], [0, 1, 2, 3, 4, 5, 6]),
      (0x0C#8, .readExtraction, [.m, .t, .l], [0], [0, 1, 2, 3, 4, 5, 6]),
      (0x0D#8, .readAlarms, [.m, .t, .l], [0], [0, 1, 2, 3, 4, 5, 6]),
      (0x0E#8, .readParam, [.m, .t, .l], [2], [0, 1, 2, 3, 4, 5, 6]),
      (0x0F#8, .peekOutcome, [.m, .t, .l], [0], [0, 1, 2, 3, 4, 5, 6]),
      (0x10#8, .readIncidents, [.m, .t, .l], [1], [0, 1, 2, 3, 4, 5, 6])]
  let column : ProcState → Nat := fun q =>
    match q with
    | .standby => 0 | .warming => 1 | .ready => 2 | .run => 3 | .drain => 4 | .hold _ _ => 5 | .trip _ => 6
  (∀ e ∈ table, e.2.1.code = e.1 ∧ commandOf e.1 = some e.2.1 ∧ (∀ p, e.2.1.permits p = e.2.2.1.contains p) ∧
    (∀ n, e.2.1.lengthOk n = e.2.2.2.1.contains n) ∧ ∀ q, e.2.1.available q = e.2.2.2.2.contains (column q)) ∧
  ∀ b : Byte, commandOf b = ((table.find? fun e => e.1 == b).map fun e => e.2.1)

/-- The checks of a frame that a port takes at once, in their order: UNKNOWN, DENIED with incident DENIED_COMMAND, LENGTH, STATE,
and then the command's own rule, whose reply is answered; the response echoes the CMD byte, and a refusal before the command's
own rule changes nothing but the incident of DENIED. -/
def Obligations.FramesAreCheckedInOrder : Prop :=
  ∀ (p : Port) (pl : List Byte) (s : State), (s.scp.ports.get p).waiting = none → (s.scp.ports.get p).answering = none →
    (∀ code, commandOf code = none →
      exec (.unknownCommand p code pl) s = .next ((s.hunt p).respond p code ⟨.unknown, []⟩)) ∧
    ∀ c : Cmd,
      (c.permits p = false → exec (c.instr p pl) s = .next (State.respond p c.code ⟨.denied, []⟩
        ((s.hunt p).addIncident .deniedCommand (some (.port p)) none (valueOf (c.code.toNat : Int))))) ∧
      (c.permits p = true → c.lengthOk pl.length = false →
        exec (c.instr p pl) s = .next ((s.hunt p).respond p c.code ⟨.length, []⟩)) ∧
      (c.permits p = true → c.lengthOk pl.length = true → c.available s.psc.state = false →
        exec (c.instr p pl) s = .next ((s.hunt p).respond p c.code ⟨.state, []⟩)) ∧
      (s.Accepts c p pl →
        exec (c.instr p pl) s = .next ((c.run p pl (s.hunt p)).2.respond p c.code (c.run p pl (s.hunt p)).1))

/-- A frame that completes while its port is answering waits; one that completes while another waits is discarded. At the end of
the response the waiting frame is taken against the state as it then stands. -/
def Obligations.FramesWaitForTheResponse : Prop :=
  ∀ (p : Port) (pl : List Byte) (s : State) (c : Cmd),
    (∀ f, (s.scp.ports.get p).waiting = some f → exec (c.instr p pl) s = .next (s.hunt p)) ∧
    (∀ b, (s.scp.ports.get p).waiting = none → (s.scp.ports.get p).answering = some b →
      exec (c.instr p pl) s =
        .next ((s.hunt p).modPort p fun u => { u with waiting := some ⟨c.code, pl⟩ })) ∧
    (∀ b, (s.scp.ports.get p).answering = some b → (s.scp.ports.get p).waiting = none →
      exec (.responseSent p) s = .next (s.modPort p fun u => { u with answering := none })) ∧
    ∀ b, (s.scp.ports.get p).answering = some b → (s.scp.ports.get p).waiting = some ⟨c.code, pl⟩ →
      c.permits p = true → c.lengthOk pl.length = true → c.available s.psc.state = true →
      exec (.responseSent p) s =
        .next (let u := s.modPort p fun u => { u with answering := none, waiting := none }
          (c.run p pl u).2.respond p c.code (c.run p pl u).1)

/-- Bytes and frames at a receive buffer: while hunting, H'A5 begins a frame and every other byte is ignored; in a frame, a
framing error, a LEN above 96 and a wrong CRC each return the buffer to hunting with nothing else changed; a frame with a
correct CRC completes; FRAME_CRC_ERROR, FRAME_TIMEOUT and FRAME_DISCARDED change nothing but the buffer. That H'A5 with a framing
error is ignored while hunting (log 23), that the gap is counted between two byte rows (log 24) and that the rows FRAME_CRC_ERROR
and FRAME_DISCARDED carry the last byte (log 25) are the model's choices. -/
def Obligations.BytesFormFrames : Prop :=
  ∀ (p : Port) (b : Byte) (s : State),
    ((s.scp.ports.get p).rx = none →
      exec (.byteReceived p b true) s = .next s ∧
      (b ≠ 0xA5#8 → exec (.byteReceived p b false) s = .next s) ∧
      exec (.byteReceived p 0xA5#8 false) s = .next (s.modPort p fun u => { u with rx := some [], gap := 0 })) ∧
    (∀ bs, (s.scp.ports.get p).rx = some bs → (s.scp.ports.get p).gap ≤ 100 →
      exec (.byteReceived p b true) s = .next (s.modPort p fun u => { u with rx := none, gap := 0 }) ∧
      (bs = [] → 96 < b.toNat →
        exec (.byteReceived p b false) s = .next (s.modPort p fun u => { u with rx := none, gap := 0 })) ∧
      (byteAt (bs ++ [b]) 0 ≤ 96 → (bs ++ [b]).length ≠ byteAt (bs ++ [b]) 0 + 4 →
        exec (.byteReceived p b false) s = .next (s.modPort p fun u => { u with rx := some (bs ++ [b]), gap := 0 })) ∧
      (byteAt (bs ++ [b]) 0 ≤ 96 → (bs ++ [b]).length = byteAt (bs ++ [b]) 0 + 4 → frameSound (bs ++ [b]) = false →
        exec (.byteReceived p b false) s = .next (s.modPort p fun u => { u with rx := none, gap := 0 }) ∧
        exec (.frameCrcError p b) s = .next (s.modPort p fun u => { u with rx := none, gap := 0 })) ∧
      ∀ (c : Cmd) (pl : List Byte),
        bs ++ [b] = (put1 pl.length ++ [c.code] ++ pl) ++ crcBytes (put1 pl.length ++ [c.code] ++ pl) →
        pl.length ≤ 96 → exec (.byteReceived p b false) s = exec (c.instr p pl) s ∧
          ((s.scp.ports.get p).waiting.isSome = true →
            exec (.frameDiscarded p b) s = .next (s.modPort p fun u => { u with rx := none, gap := 0 }))) ∧
    ∀ bs, (s.scp.ports.get p).rx = some bs → 100 < (s.scp.ports.get p).gap →
      exec (.frameTimeout p) s = .next (s.modPort p fun u => { u with rx := none, gap := 0 })

/-- The reads of the process and of the conveyor answer OK with the items of Table 11.3 in order and change nothing but the port
that answers; READ_BOARD past the table is refused with RANGE. Where the manual does not give the coding, widths and codes of the
items are the model's reading (log 21), places free and the outcomes held taking 1 byte and the occupancy 4 (DESIGN CHOICE, log
62), and READ_STATUS counts the level of ESTOP_N as a standing condition (log 20). Without a next recipe READ_ADMISSION counts
conditions 6 and 9 as log 55 says (DESIGN CHOICE). -/
def Obligations.ProcessAndTrackReads : Prop :=
  ∀ (p : Port) (pl : List Byte) (s : State),
    (s.Accepts .readStatus p pl → exec (.readStatus p pl) s = .next ((s.hunt p).respond p 0x01#8 ⟨.ok,
      put1 s.psc.state.code ++ putOpt put1 0 s.psc.state.substate ++ putOpt put1 0 s.psc.state.prior ++
      putOpt put1 0 s.psc.state.causeCode ++
      put1 (match s.rps.active with | some i => i.val | none => 255) ++ put1 s.rps.settle.code ++ put4 s.rps.settleTimer ++
      s.conditionBytes ++ put1 (bitsOf (s.startGate.map (!·)))⟩)) ∧
    (s.Accepts .readAdmission p pl → exec (.readAdmission p pl) s = .next ((s.hunt p).respond p 0x02#8 ⟨.ok,
      putBool s.adu.admitOn ++ put2 (bitsOf (s.admitConditions.map (!·))) ++ putBool s.adu.grace.isSome ++
      put4 (s.adu.grace.getD 0) ++ putOpt put1 0 (s.nextRecipe.map Fin.val) ++ putOpt put1 0 (s.nextProfile.map Fin.val) ++
      putOpt put1 0 (s.adu.default.map Fin.val) ++ put1 s.adu.queue.length ++ s.adu.queue.flatMap putTicket ++
      put1 s.placesFree ++ put1 s.oq.outcomes.length⟩)) ∧
    (s.Accepts .readTrack p pl → exec (.readTrack p pl) s = .next ((s.hunt p).respond p 0x03#8 ⟨.ok,
      putWord s.ctr.pos ++ putWord s.ctr.hwm ++ put4 s.ctr.excursion ++ putS4 s.ctr.speed ++ put4 s.ctr.stallTimer ++
      put4 s.ctr.occupancy ++ put1 s.ctr.table.length ++ putBool s.ctr.trackAlert ++ putBool (!s.ctr.entryBlocked) ++
      putBool (!s.ctr.exitBlocked) ++ putBool s.ctr.mapValid⟩)) ∧
    (s.Accepts .readBoard p pl → exec (.readBoard p pl) s = .next ((s.hunt p).respond p 0x04#8
      (match s.ctr.table[byteAt pl 0]? with
        | some r => ⟨.ok, putWord r.entryPos ++
            put1 (bitsOf [r.tag.isSome, r.recipe.isSome, r.topTemp.isSome, r.contactMs.isSome]) ++ putWord (r.tag.getD 0) ++
            put1 ((r.recipe.map Fin.val).getD 0) ++ put1 r.stage.code ++ put2 r.flags.bits ++ putWord r.entryTime ++
            putWord (BitVec.ofNat 32 r.parkTime) ++ put2 (r.length.getD 0) ++ put1 r.flux.code ++
            (put1 r.marks.z1.rank ++ put1 r.marks.z2.rank ++ put1 r.marks.z3.rank) ++ putS2 (r.topTemp.getD 0) ++
            put1 r.wave.code ++ put2 (r.contactMs.getD 0) ++ put1 r.doses.length ++
            r.doses.flatMap fun d => put1 d.lane.val ++ put2 d.delivered ++ put2 d.shortfall⟩
        | none => ⟨.range, []⟩))) ∧
    (s.Accepts .readGeometry p pl → exec (.readGeometry p pl) s = .next ((s.hunt p).respond p 0x05#8 ⟨.ok,
      putBool s.ctr.mapValid ++ put2 s.ctr.map.pf ++ put2 s.ctr.map.z1in ++ put2 s.ctr.map.z1out ++ put2 s.ctr.map.z2in ++
      put2 s.ctr.map.z2out ++ put2 s.ctr.map.z3in ++ put2 s.ctr.map.z3out ++ put2 s.ctr.map.pp ++ put2 s.ctr.map.pc ++
      put2 s.ctr.map.pm ++ put2 s.ctr.map.g ++ put2 s.ctr.map.px ++ put2 s.ctr.map.w⟩))

/-- The reads of the stores, the nozzle bar, the heaters and the pumps answer with the items of Table 11.3 in order and change
nothing but the port that answers; an index outside its store or the lanes is refused with RANGE. That an EMPTY record reads as
0, the presence and validity bytes, and OPEN, ON and UP as 0 are the model's reading where the manual does not give the coding
(log 21); so are value 0 for an invalid sample (DESIGN CHOICE, log 59) and the widths of the reference count and the qualify
count, the owner's table position and RR (DESIGN CHOICE, log 62). -/
def Obligations.StoreAndDriveReads : Prop :=
  ∀ (p : Port) (pl : List Byte) (s : State),
    (s.Accepts .readProfile p pl → exec (.readProfile p pl) s = .next ((s.hunt p).respond p 0x06#8
      (match indexOf 8 (byteAt pl 0) with
        | some i => match s.rps.profiles[i] with
          | some q => ⟨.ok, put1 1 ++ (put2 q.z1 ++ put2 q.z2 ++ put2 q.z3 ++ put2 q.pot ++ put1 q.band ++ put2 q.chip ++
              put2 q.main ++ put1 q.speedMin ++ put1 q.speedMax ++ put2 q.settleTime ++ put2 q.boost)⟩
          | none => ⟨.ok, put1 0 ++ List.replicate 19 0#8⟩
        | none => ⟨.range, []⟩))) ∧
    (s.Accepts .readRecipe p pl → exec (.readRecipe p pl) s = .next ((s.hunt p).respond p 0x07#8
      (match indexOf 32 (byteAt pl 0) with
        | some i => match s.rps.recipes[i] with
          | some c => ⟨.ok, put1 1 ++ (c.name ++ put1 c.profile.val ++ put2 c.density ++ [c.laneMask] ++ put2 c.leadIn ++
              put2 c.leadOut ++ put2 c.contactMin ++ put2 c.contactMax ++ put2 c.topMin ++ put2 c.topMax ++ put2 c.minGap) ++
              put1 (s.rps.refs[i])⟩
          | none => ⟨.ok, put1 0 ++ List.replicate 26 0#8 ++ put1 (s.rps.refs[i])⟩
        | none => ⟨.range, []⟩))) ∧
    (s.Accepts .readFlux p pl → exec (.readFlux p pl) s = .next ((s.hunt p).respond p 0x08#8
      (if byteAt pl 0 = 255 then ⟨.ok,
          putSample s.fdu.pressure ++ put4 s.fdu.qualify ++ putBool s.fdu.fluxPressure ++ putBool s.fdu.reservoirLow ++
          put4 (s.fdu.reservoir / 1000) ++ putBool s.fdu.inhibit.isSome ++
          putOpt put1 0 (s.fdu.inhibit.map InhibitMode.code) ++ put1 (bitsOf [s.fdu.fluxPressure, s.inhibitRequest])⟩
        else match indexOf 8 (byteAt pl 0) with
          | some l => ⟨.ok, (put1 (s.fdu.nozzles[l]).quantum ++ putBool (!(s.fdu.nozzles[l]).enabled) ++
              put1 (s.fdu.nozzles[l]).onTime ++ put1 (s.fdu.nozzles[l]).offTime) ++ (put4 (s.fdu.lanes[l]).acc ++
              put1 (s.fdu.lanes[l]).owed ++ putOpt put1 0 (s.tablePosition (s.fdu.lanes[l]).owner) ++
              putBool (!(s.fdu.lanes[l]).window) ++ put1 (s.fdu.lanes[l]).gen.code)⟩
          | none => ⟨.range, []⟩))) ∧
    (s.Accepts .readHeater p pl → exec (.readHeater p pl) s = .next ((s.hunt p).respond p 0x09#8 ⟨.ok,
      (allChannels.flatMap fun c => let u := s.hcu.ch.get c
        putSampleS u.sample ++ put1 u.invalid ++ putS4 u.integral ++ put2 u.power ++ put2 u.firing ++ putBool (!u.ssr) ++
        putBool u.tcOpen ++ putBool u.overtemp) ++
      put1 s.hcu.rr ++ putBool s.mainsPresent ++ putBool s.hcu.mainsSync ++ putSampleS s.hcu.pyro⟩)) ∧
    (s.Accepts .readPumps p pl → exec (.readPumps p pl) s = .next ((s.hunt p).respond p 0x0A#8 ⟨.ok,
      ([Pump.chip, Pump.main].flatMap fun k => let u := s.wpu.pumps.get k
        put1 u.stage.code ++ put2 u.reference ++ put2 u.target ++ putBool u.feedback ++ putBool (s.deferred k) ++
        putBool u.fault) ++ putBool (!s.wpu.orderUp) ++ putBool s.wpu.molten⟩))

/-- The reads of the pot level, the hoods, the alarm lines, the parameters, the oldest outcome and the incidents answer with the
items of Table 11.3 in order and change nothing but the port that answers; an empty queue or list is refused with EMPTY, a
starting age past the list and a parameter outside Table 11.5 with RANGE. One byte for each flag, the layout of a sample, the
widths, and SILENCED as 0 are the model's reading where the manual does not give the coding (log 21); so are value 0 for an
invalid sample (log 59), the six flags as the level flags of READ_LEVEL (log 61) and 4 bytes for the step count, the steps to
give and a hold-off (log 62), each a DESIGN CHOICE. -/
def Obligations.SupervisionAndRecordReads : Prop :=
  ∀ (p : Port) (pl : List Byte) (s : State),
    (s.Accepts .readLevel p pl → exec (.readLevel p pl) s = .next ((s.hunt p).respond p 0x0B#8 ⟨.ok,
      put1 s.lvu.probe.code ++ put4 s.lvu.steps ++ putResult s.lvu.last ++ putOpt putWord 0#32 s.lvu.request ++
      put4 s.requestAge ++ putOpt put4 0 s.lvu.interval ++ putBool s.lvu.gap ++ put1 s.lvu.feeder.code ++
      put4 s.lvu.feeder.toGive ++ put4 s.lvu.settleTimer ++ put2 s.lvu.budget ++ putBool s.lvu.high ++ putBool s.lvu.low ++
      putBool s.lvu.critical ++ putBool s.lvu.probeFault ++ putBool s.lvu.feedBudget ++ putBool s.lvu.wireOut⟩)) ∧
    (s.Accepts .readExtraction p pl → exec (.readExtraction p pl) s = .next ((s.hunt p).respond p 0x0C#8 ⟨.ok,
      (allHoods.flatMap fun h => let u := s.exm.hoods.get h
        putSample u.pressure ++ putBool u.fan ++ put2 u.warn ++ put2 u.loss ++ put2 u.fanOff ++ put2 u.good ++
        put4 u.holdOff ++ putBool u.flowWarn ++ putBool u.flowLoss ++ putBool u.fanStop ++ putBool u.escalated ++
        putBool u.lossActive ++ putBool (decide (u.qualify * 10 ≤ u.good)) ++ put4 u.timer ++
        putBool u.proven) ++ putBool s.extractionProven ++ putBool s.extractionLost⟩)) ∧
    (s.Accepts .readAlarms p pl → exec (.readAlarms p pl) s = .next ((s.hunt p).respond p 0x0D#8 ⟨.ok,
      [Line.alm1, Line.alm2].flatMap fun l =>
        putBool (s.lineActive l) ++ put1 (s.lineClasses l).toNat ++ putBool (!(s.aou.lines.get l).silenced) ++
        putBool (s.aou.lines.get l).conducting⟩)) ∧
    (s.Accepts .readParam p pl → exec (.readParam p pl) s = .next ((s.hunt p).respond p 0x0E#8
      (match paramOf (byteAt pl 0) (byteAt pl 1) with
        | some k => ⟨.ok, putS4 (k.get s.params)⟩
        | none => ⟨.range, []⟩))) ∧
    (s.Accepts .peekOutcome p pl → exec (.peekOutcome p pl) s = .next ((s.hunt p).respond p 0x0F#8
      (match s.oq.outcomes with
        | o :: _ => ⟨.ok, putWord o.number ++
            put1 (bitsOf [o.tag.isSome, o.recipe.isSome, o.topTemp.isSome, o.contactMs.isSome]) ++ putWord (o.tag.getD 0) ++
            put1 ((o.recipe.map Fin.val).getD 0) ++ put1 o.verdict.code ++ put2 o.flags.bits ++ putWord o.entryTime ++
            putWord o.exitTime ++ put2 o.length ++ put1 o.flux.code ++
            (put1 o.marks.z1.rank ++ put1 o.marks.z2.rank ++ put1 o.marks.z3.rank) ++ putS2 (o.topTemp.getD 0) ++
            put1 o.wave.code ++ put2 (o.contactMs.getD 0) ++ put1 o.doses.length ++
            o.doses.flatMap fun d => put1 d.lane.val ++ put2 d.delivered ++ put2 d.shortfall⟩
        | [] => ⟨.empty, []⟩))) ∧
    (s.Accepts .readIncidents p pl → exec (.readIncidents p pl) s = .next ((s.hunt p).respond p 0x10#8
      (if s.inl.incidents = [] then ⟨.empty, []⟩
        else if s.inl.incidents.length ≤ byteAt pl 0 then ⟨.range, []⟩
        else ⟨.ok, putWord s.inl.counter ++ put1 s.inl.incidents.length ++
          ((s.inl.incidents.reverse.drop (byteAt pl 0)).take 4).flatMap fun i =>
            putWord i.number ++ putWord i.time ++ put1 i.code.number ++
            put1 (bitsOf [i.subject.isSome, i.tag.isSome, i.value.isSome]) ++
            put1 ((i.subject.map Subject.number).getD 0) ++ putWord (i.tag.getD 0) ++ putWord (i.value.getD 0)⟩)))

/-! ## The Conveyor Tracker and the Admission Unit -/

/-- A count of the encoder: a change of one line is a count, of no line nothing (log 43), and forward is ENC_A leading ENC_B
(PRESUMED, log 2). A reverse count and a forward count that is no advance move POS and the window's net count alone; the reverse
count that takes E from 500 to 501 latches TRACK_ALERT, marks every record POSITION_UNSURE and moves RUN to HOLD. An advance
moves HWM with POS, evaluates the start of a measurement, and with a map takes each record's crossings by its new head and tail
offsets: a zone under TC_OPEN marks FAULT; at the centre the pyrometer sample becomes the top temperature; at the chip line, at
the wave region and at the tail's main line WAVE_DEVIATION; at the main line contact begins and ends; the occupancy counts the
wave region's overlaps; a record in ENTERING past 6000 is OVERLENGTH, one in EXITING past Px + w a jam, or with EXIT_N CLEAR
complete, and the oldest in TRAVEL past Px + w is lost, each outcome with its verdict; a head at Pc − g abandons a measurement. -/
def Obligations.EncoderCountMovesPosition : Prop :=
  ∀ (a b : Bool) (s : State),
    let u := { s with pins := { s.pins with encA := a, encB := b } }
    let lines := { s.ctr with encA := a, encB := b, counted := true, stallTimer := 0 }
    let turn := turnOf s.ctr.encA s.ctr.encB a b
    (turn = .none ↔ a = s.ctr.encA ∧ b = s.ctr.encB) ∧ (turn = .glitch ↔ a ≠ s.ctr.encA ∧ b ≠ s.ctr.encB) ∧
    (turn = .forward ↔ (s.ctr.encA, s.ctr.encB, a, b) ∈ [(false, false, true, false), (true, false, true, true),
      (true, true, false, true), (false, true, false, false)]) ∧
    (turn = .none → exec (.encoderCount a b) s = .next u) ∧
    (turn = .reverse → (s.ctr.hwm - (s.ctr.pos - 1)).toNat ≠ 501 → exec (.encoderCount a b) s =
      .next (State.finish { u with ctr := { lines with pos := s.ctr.pos - 1, net := s.ctr.net - 1 } })) ∧
    (turn = .reverse → (s.ctr.hwm - (s.ctr.pos - 1)).toNat = 501 →
      ∃ t, exec (.encoderCount a b) s = .next t ∧ t.ctr.pos = s.ctr.pos - 1 ∧ t.ctr.hwm = s.ctr.hwm ∧
        t.ctr.net = s.ctr.net - 1 ∧ t.ctr.trackAlert = true ∧ t.ctr.table.length = s.ctr.table.length ∧
        (∀ r ∈ t.ctr.table, r.flags.positionUnsure = true) ∧
        (s.psc.state = .run → t.psc.state = .hold .holding .run) ∧ t.settings = s.settings) ∧
    (turn = .forward → past (s.ctr.pos + 1) s.ctr.hwm = false → exec (.encoderCount a b) s =
      .next (State.finish { u with ctr := { lines with pos := s.ctr.pos + 1, net := s.ctr.net + 1 } })) ∧
    (turn = .forward → past (s.ctr.pos + 1) s.ctr.hwm = true → ∃ t, exec (.encoderCount a b) s = .next t ∧
      t.ctr.pos = s.ctr.pos + 1 ∧ t.ctr.hwm = s.ctr.pos + 1 ∧ t.ctr.net = s.ctr.net + 1 ∧ t.ctr.encA = a ∧ t.ctr.encB = b ∧
      t.pins = u.pins ∧ t.ctr.speed = s.ctr.speed ∧ t.ctr.entryBlocked = s.ctr.entryBlocked ∧
      t.ctr.exitBlocked = s.ctr.exitBlocked ∧ t.adu.queue = s.adu.queue ∧ t.settings = s.settings ∧
      t.lvu.startDue = t.mayMeasure ∧ (s.ctr.mapValid = false → t.ctr.occupancy = s.ctr.occupancy ∧ t.oq = s.oq) ∧
      (s.ctr.mapValid = true → s.KeysDiffer →
        let m := s.ctr.map
        let alone := fun r : BoardRecord => s.ctr.table.all fun x => x.entryPos == r.entryPos || !s.strays x
        let noted := fun (c : IncidentCode) (r : BoardRecord) (v : Int) => s.ctr.table.length ≤ 2 →
          ∃ i ∈ t.inl.incidents, i.code = c ∧ i.time = s.timeMs ∧ i.tag = r.tag ∧ i.value = valueOf v
        let left := fun (r : BoardRecord) (lost : Bool) => t.oq.counter = s.oq.counter + 1 ∧
          t.ctr.table.map BoardRecord.entryPos =
            (s.ctr.table.map BoardRecord.entryPos).filter (fun k => k != r.entryPos) ∧
          (∀ i, r.recipe = some i → t.rps.refs[i] = s.rps.refs[i] - 1) ∧
          ∃ o, t.oq.outcomes = s.oq.outcomes ++ [o] ∧ o.number = s.oq.counter + 1 ∧ o.tag = r.tag ∧ o.recipe = r.recipe ∧
            o.entryTime = r.entryTime ∧ o.exitTime = s.timeMs ∧ o.length = r.length.getD 0 ∧ o.verdict = verdictOf lost o.flags
        (s.ctr.table.all (fun r => !s.strays r) = true →
          let bare := fun r : BoardRecord =>
            { r with flux := .notRequired, doses := [], sprayed := 0, flags := { r.flags with fluxDeviation := false } }
          t.ctr.table.map bare = s.ctr.table.map (fun r =>
            let h := s.nextHead r
            let faults := fun z : Zone => decide (h = ((m.zone z).1 : Int) + 1) && (s.hcu.ch.get z.channel).tcOpen &&
              r.marks.get z != .fault
            let mark := fun z : Zone => if faults z then .fault else r.marks.get z
            let centre := match r.length with
              | some l => decide (h = (m.pp : Int) + ((l / 2 : Nat) : Int))
              | none => false
            let hot := match s.hcu.pyro with
              | .valid x => match s.recipeOf r with
                | some c => decide (x < (c.topMin : Int)) || decide ((c.topMax : Int) < x)
                | none => false
              | _ => true
            let entered := decide (h = (m.pm : Int)) && r.wave == .pending
            let begun := if entered then some s.timeMs else r.contactStart
            let ended := (entered || r.wave == .inWave) && begun.isSome && s.nextTail r == some (m.pm : Int)
            let ms := min (s.timeMs - begun.getD 0#32).toNat 65535
            let off := match s.recipeOf r with
              | some c => decide (ms < c.contactMin) || decide (c.contactMax < ms)
              | none => false
            bare { r with
              marks := ⟨mark .z1, mark .z2, mark .z3⟩
              topTemp := match centre, s.hcu.pyro with
                | true, .valid x => some x
                | _, _ => r.topTemp
              wave := if ended then .done else if entered then .inWave else r.wave
              contactStart := if ended then none else begun
              contactMs := if ended then some ms else r.contactMs
              flags := { r.flags with
                preheatDeviation := r.flags.preheatDeviation || faults .z1 || faults .z2 || faults .z3
                toptempDeviation := r.flags.toptempDeviation || (centre && hot)
                waveDeviation := r.flags.waveDeviation || (ended && off) ||
                  (decide (h = (m.pc : Int)) && decide (0 < s.pumpSpeed .chip) && s.wpu.pumps.chip.stage != .running) ||
                  (decide (h = m.waveIn + 1) && !s.waveReady) } }) ∧
          (let ends := s.ctr.table.countP (fun r => s.nextTail r == some m.waveOut);
            ends ≤ s.ctr.occupancy → t.ctr.occupancy =
              s.ctr.occupancy + (s.ctr.table.countP fun r => s.nextHead r == m.waveIn + 1) - ends) ∧
          t.oq = s.oq ∧ t.ctr.trackAlert = s.ctr.trackAlert) ∧
        ∀ r ∈ s.ctr.table,
          (r.stage = .entering → s.nextHead r = 6001 →
            t.ctr.trackAlert = true ∧ (s.psc.state = .run → t.psc.state = .hold .holding .run) ∧ noted .overlength r 6001) ∧
          (r.stage = .exiting → s.nextTail r = some ((m.px : Int) + (m.w : Int) + 1) →
            (s.ctr.exitBlocked = true → t.ctr.trackAlert = true ∧
              (s.psc.state = .run → t.psc.state = .hold .holding .run) ∧ noted .exitJam r ((m.px : Int) + (m.w : Int) + 1)) ∧
            (s.ctr.exitBlocked = false → alone r = true → left r false)) ∧
          (s.ctr.table.find? (fun x => x.stage == .travel) = some r → (m.px : Int) + (m.w : Int) < s.nextHead r →
            t.ctr.trackAlert = true ∧ (s.psc.state = .run → t.psc.state = .hold .holding .run) ∧
            noted .boardLost r (s.nextHead r) ∧ (alone r = true → left r true)) ∧
          (s.nextHead r = m.waveIn ∨ s.nextHead r = m.waveIn + 1 → s.lvu.measuring = true →
            t.lvu.measuring = false ∧ t.lvu.last = s.lvu.last ∧ t.lvu.request = s.lvu.request)))

/-- A quadrature glitch, as its own row or as a change of both lines, takes the new levels without a count, marks every record
POSITION_UNSURE, and adds ENCODER_GLITCH unless the newest incident is one less than 1000 ms old; nothing else changes. -/
def Obligations.GlitchKeepsPosition : Prop :=
  ∀ s : State,
    let marked := { s with
      pins := { s.pins with encA := !s.ctr.encA, encB := !s.ctr.encB }
      ctr := { s.ctr with
        encA := !s.ctr.encA, encB := !s.ctr.encB
        table := s.ctr.table.map fun r => { r with flags := { r.flags with positionUnsure := true } } } }
    let t := match s.inl.incidents.getLast? with
      | some i => if i.code = .encoderGlitch ∧ (s.timeMs - i.time).toNat < 1000 then marked
          else marked.addIncident .encoderGlitch none none none
      | none => marked.addIncident .encoderGlitch none none none
    exec .quadratureGlitch s = .next t ∧ exec (.encoderCount (!s.ctr.encA) (!s.ctr.encB)) s = .next t ∧
      t.ctr.pos = s.ctr.pos ∧ t.ctr.hwm = s.ctr.hwm ∧ t.ctr.excursion = s.ctr.excursion ∧ t.ctr.net = s.ctr.net ∧
      t.ctr.stallTimer = s.ctr.stallTimer

/-- An incident takes the next number, the present TIME_MS and the code, subject, tag and value given, becomes the newest of
the list, which drops its oldest at 32 records, and puts INCIDENT into the event set of each port; nothing else changes. -/
def Obligations.IncidentsAreNumberedAndAppended : Prop :=
  ∀ (code : IncidentCode) (j : Option Subject) (tag value : Option Word) (s : State),
    s.addIncident code j tag value = { s with
      inl := ⟨(if s.inl.incidents.length < 32 then s.inl.incidents else s.inl.incidents.tail) ++
        [⟨s.inl.counter + 1, s.timeMs, code, j, tag, value⟩], s.inl.counter + 1⟩
      scp := ⟨⟨{ s.scp.ports.m with events := s.scp.ports.m.events ||| 0x20#6 },
        { s.scp.ports.t with events := s.scp.ports.t.events ||| 0x20#6 },
        { s.scp.ports.l with events := s.scp.ports.l.events ||| 0x20#6 }⟩⟩ }

/-- At the end of a speed window without a stall the net count becomes the speed, the next window starts from 0, and the stall
timer gains 100 ms where a board stands still in RUN or DRAIN; records in a zone or the wave region get SPEED_DEVIATION by the
speed band and those in the wave region WAVE_DEVIATION where the wave was not ready; nothing else changes. A window end at which
the timer reaches the stall timeout, and a stall that is due, also add STALL with the number of records, restart the timer and
move RUN to HOLD. The checks of the window come before the HOLD that its stall begins (DESIGN CHOICE, log 63). -/
def Obligations.SpeedWindowsAndStall : Prop :=
  ∀ s : State,
    let runs := s.psc.state.runOrDrain && !s.ctr.table.isEmpty
    let timer := if runs then (if s.ctr.counted then s.ctr.stallTimer else s.ctr.stallTimer + 100) else 0
    let slow := s.psc.state.runOrDrain && match s.activeProfile with
      | some q => decide (s.ctr.net < (q.speedMin : Int)) || decide ((q.speedMax : Int) < s.ctr.net)
      | none => false
    let rough := s.wpu.notReadySeen || !s.waveReady
    let ended := { s with
      ctr := { s.ctr with
        speed := s.ctr.net, net := 0, counted := false, stallTimer := timer
        table := s.ctr.table.map fun r => { r with flags := { r.flags with
          speedDeviation := r.flags.speedDeviation || (slow && (s.inAnyZone r || s.inWave r))
          waveDeviation := r.flags.waveDeviation || (rough && s.inWave r) } } }
      wpu := { s.wpu with notReadySeen := !s.waveReady } }
    let stalls := fun x : State => State.finish (State.holdBegins
      ((x.addIncident .stall none none (valueOf (x.ctr.table.length : Int))).modCtr fun c => { c with stallTimer := 0 }))
    (s.timeMs.toNat % 100 = 0 →
      ((runs = true → timer < s.params.stallTimeout) → exec .speedWindowEnd s = .next ended) ∧
      (runs = true → s.params.stallTimeout ≤ timer → exec .speedWindowEnd s = .next (stalls ended) ∧
        (s.psc.state = .run → (stalls ended).psc.state = .hold .holding .run) ∧
        (stalls ended).ctr.speed = s.ctr.net ∧ (stalls ended).ctr.stallTimer = 0)) ∧
    (runs = true → s.params.stallTimeout ≤ s.ctr.stallTimer →
      exec .stall s = .next (stalls s) ∧
      (s.psc.state = .run → ∃ t, exec .stall s = .next t ∧ t.psc.state = .hold .holding .run ∧ t.settings = s.settings))

/-- An admitted board gets a record at the young end of the table with entry position HWM and entry time TIME_MS, bound to the
front ticket, which leaves the queue, or to the default recipe, whose reference count rises; its profile is its recipe's, its
flux fields are formed from its recipe, and PROFILE_MISMATCH is set where its profile is not the active one. The grace timer
becomes IDLE. -/
def Obligations.AdmittedBoardIsBound : Prop :=
  ∀ s : State, s.ctr.entryBlocked = false → s.ctr.excursion = 0 → s.ctr.mapValid = true → s.boardEntering = false →
    s.ctr.table.length < 12 → s.ctr.table.length + s.oq.outcomes.length < 16 →
    (s.adu.admitOn = true ∨ s.adu.grace.isSome = true) →
    let record := fun (tag : Option Word) (i : Fin 32) (o : Origin) => ({
      tag := tag, recipe := some i, profile := (s.rps.recipes[i]).map Recipe.profile, origin := some o
      entryPos := s.ctr.hwm, length := none, entryTime := s.timeMs, stage := .entering
      flux := (match s.rps.recipes[i] with
        | some c => if 0 < c.density then .pending else .notRequired
        | none => .notRequired)
      doses := (match s.rps.recipes[i] with
        | some c => if 0 < c.density then dosesOf c.laneMask else []
        | none => [])
      sprayed := 0, marks := ⟨.none, .none, .none⟩, topTemp := none, wave := .pending, contactMs := none
      contactStart := none, parkTime := 0
      flags := { BoardFlags.empty with
        extractionEvent := s.extractionLost
        profileMismatch := !((s.rps.recipes[i]).isSome && (s.rps.recipes[i]).map Recipe.profile == s.rps.active) } } :
      BoardRecord)
    let pins := { s.pins with entryBlocked := true }
    (∀ k rest, s.adu.queue = k :: rest → exec .entryLeadingEdge s = .next (State.react true { s with
      pins := pins
      ctr := { s.ctr with entryBlocked := true, table := s.ctr.table ++ [record k.tag k.recipe .ticket] }
      adu := { s.adu with queue := rest, grace := none } })) ∧
    ∀ i, s.adu.queue = [] → s.adu.default = some i → exec .entryLeadingEdge s = .next (State.react true { s with
      pins := pins
      ctr := { s.ctr with entryBlocked := true, table := s.ctr.table ++ [record none i .default] }
      rps := { s.rps with refs := s.rps.refs.set i (s.rps.refs[i] + 1) }
      adu := { s.adu with grace := none } })

/-- The entry edges that let no board in: with E above 0 every record becomes POSITION_UNSURE and SENSOR_REVERSED is added; with
an INVALID map NO_GEOMETRY is added; while the youngest record is in ENTERING, that record becomes POSITION_UNSURE and
SENSOR_REVERSED is added; without space the part enters TRIP with cause TRACK_OVERFLOW; an unexpected board gets an UNSCHEDULED
record without recipe and TRACK_ALERT latches. -/
def Obligations.OtherEntryEdges : Prop :=
  ∀ s : State, s.ctr.entryBlocked = false →
    let taken := { s with pins := { s.pins with entryBlocked := true }, ctr := { s.ctr with entryBlocked := true } }
    (0 < s.ctr.excursion → exec .entryLeadingEdge s = .next (State.addIncident .sensorReversed (some .entry) none
      (valueOf (s.ctr.excursion : Int)) { taken with ctr := { taken.ctr with
        table := s.ctr.table.map fun r => { r with flags := { r.flags with positionUnsure := true } } } })) ∧
    (s.ctr.excursion = 0 → s.ctr.mapValid = false → exec .entryLeadingEdge s =
      .next (taken.addIncident .noGeometry none none (valueOf (s.ctr.hwm.toNat : Int)))) ∧
    (∀ e, s.ctr.excursion = 0 → s.ctr.mapValid = true → s.youngest? = some e → e.stage = .entering →
      exec .entryLeadingEdge s = .next (State.addIncident .sensorReversed (some .entry) none (valueOf 0)
        { taken with ctr := { taken.ctr with table := s.ctr.table.map fun r => if r.entryPos = e.entryPos then
          { r with flags := { r.flags with positionUnsure := true } } else r } })) ∧
    (s.ctr.excursion = 0 → s.ctr.mapValid = true → s.boardEntering = false → s.hasSpace = false →
      s.psc.state.isTrip = false → ∃ t, exec .entryLeadingEdge s = .next t ∧ t.psc.state = .trip .trackOverflow ∧
        t.ctr.table.length = s.ctr.table.length ∧ (∀ r ∈ t.ctr.table, r.flags.tripped = true) ∧ t.adu.admitOn = false ∧
        t.adu.grace = none ∧ t.adu.queue = s.adu.queue ∧ t.settings = s.settings) ∧
    (s.ctr.excursion = 0 → s.ctr.mapValid = true → s.boardEntering = false → s.hasSpace = true → s.admits = false →
      exec .entryLeadingEdge s = .next (State.react true (State.graceIdle (State.latchTrack
        { taken.addIncident .unexpectedBoard (some .entry) none (valueOf (s.ctr.hwm.toNat : Int)) with
          ctr := { taken.ctr with table := s.ctr.table ++ [{ s.newRecord with
            flags := { s.newRecord.flags with unscheduled := true } }] } }))))

/-- The trailing edge of the ENTERING board: shorter than 500 it is debris, its record leaves the table, its ticket returns
to the front of the queue or its default reference is released, an UNSCHEDULED one has neither, and DEBRIS is added with its
length; from 500 on, it takes its length, 6000 at most, and TRAVEL. With E above 0, or with no record in ENTERING, no record
takes a length. -/
def Obligations.EntryTrailingEdgeMeasures : Prop :=
  ∀ s : State, s.ctr.entryBlocked = true →
    let taken := { s with pins := { s.pins with entryBlocked := false }, ctr := { s.ctr with entryBlocked := false } }
    (0 < s.ctr.excursion → exec .entryTrailingEdge s = .next (State.addIncident .sensorReversed (some .entry) none
      (valueOf (s.ctr.excursion : Int)) { taken with ctr := { taken.ctr with
        table := s.ctr.table.map fun r => { r with flags := { r.flags with positionUnsure := true } } } })) ∧
    (s.ctr.excursion = 0 → s.boardEntering = false → exec .entryTrailingEdge s = .next taken) ∧
    ∀ r, s.ctr.excursion = 0 → s.youngest? = some r → r.stage = .entering →
      let len := (s.ctr.hwm - r.entryPos).toNat
      let occ := if s.inWave r then s.ctr.occupancy - 1 else s.ctr.occupancy
      let lanes := s.fdu.lanes.map fun u =>
        if u.owner = some r.entryPos then { u with acc := 0, owed := 0, owner := none, window := false } else u
      (∀ i, len < 500 → r.origin = some .ticket → r.recipe = some i → exec .entryTrailingEdge s =
        .next (State.finish (State.addIncident .debris none r.tag (valueOf (len : Int)) { taken with
          ctr := { taken.ctr with table := s.ctr.table.dropLast, occupancy := occ }
          fdu := { s.fdu with lanes := lanes }
          adu := { s.adu with queue := ⟨r.tag, i⟩ :: s.adu.queue } }))) ∧
      (∀ i, len < 500 → r.origin = some .default → r.recipe = some i → exec .entryTrailingEdge s =
        .next (State.finish (State.addIncident .debris none r.tag (valueOf (len : Int)) { taken with
          ctr := { taken.ctr with table := s.ctr.table.dropLast, occupancy := occ }
          fdu := { s.fdu with lanes := lanes }
          rps := { s.rps with refs := s.rps.refs.set i (s.rps.refs[i] - 1) } }))) ∧
      (len < 500 → r.origin = none → exec .entryTrailingEdge s =
        .next (State.finish (State.addIncident .debris none r.tag (valueOf (len : Int)) { taken with
          ctr := { taken.ctr with table := s.ctr.table.dropLast, occupancy := occ }
          fdu := { s.fdu with lanes := lanes } }))) ∧
      (500 ≤ len →
        let measured := { taken with ctr := { taken.ctr with table := s.ctr.table.map fun x =>
          if x.entryPos = r.entryPos then { x with
            length := some (min len 6000), stage := .travel
            flags := { x.flags with positionUnsure := x.flags.positionUnsure || decide (6000 < len) } } else x } }
        exec .entryTrailingEdge s = .next (State.finish (State.lostCheck (State.catchUp r.entryPos measured))) ∧
        ∃ t, exec .entryTrailingEdge s = .next t ∧ t.ctr.entryBlocked = false ∧ t.adu.queue = s.adu.queue ∧
          t.settings = s.settings)

/-- The exit leading edge: a record still in EXITING is completed first, its outcome joining the queue; then the oldest TRAVEL
record goes to EXITING where its head lies within Px − w to Px + w, and otherwise PHANTOM_EXIT is added; with E above 0 the edge
is not used for tracking. -/
def Obligations.ExitLeadingEdgeMatches : Prop :=
  ∀ s : State, s.ctr.exitBlocked = false →
    let taken := { s with pins := { s.pins with exitBlocked := true }, ctr := { s.ctr with exitBlocked := true } }
    let reaches := fun r : BoardRecord => (s.ctr.map.px : Int) - s.ctr.map.w ≤ s.head r ∧
      s.head r ≤ (s.ctr.map.px : Int) + s.ctr.map.w
    (0 < s.ctr.excursion → exec .exitLeadingEdge s = .next (State.addIncident .sensorReversed (some .exit) none
      (valueOf (s.ctr.excursion : Int)) { taken with ctr := { taken.ctr with
        table := s.ctr.table.map fun r => { r with flags := { r.flags with positionUnsure := true } } } })) ∧
    (∀ r, s.ctr.excursion = 0 → s.exiting? = none → s.oldestTravel? = some r → reaches r →
      exec .exitLeadingEdge s = .next (State.finish { taken with ctr := { taken.ctr with
        table := s.ctr.table.map fun x => if x.entryPos = r.entryPos then { x with stage := .exiting } else x } })) ∧
    (s.ctr.excursion = 0 → s.exiting? = none → (∀ r, s.oldestTravel? = some r → ¬reaches r) →
      exec .exitLeadingEdge s =
        .next (State.finish (taken.addIncident .phantomExit none none (valueOf (s.ctr.hwm.toNat : Int))))) ∧
    ∀ e, s.ctr.excursion = 0 → s.exiting? = some e → s.KeysDiffer → ∃ t o, exec .exitLeadingEdge s = .next t ∧
      t.oq = ⟨s.oq.outcomes ++ [o], s.oq.counter + 1⟩ ∧ o.number = s.oq.counter + 1 ∧ o.exitTime = s.timeMs ∧ o.tag = e.tag ∧
      o.recipe = e.recipe ∧ o.entryTime = e.entryTime ∧ o.length = e.length.getD 0 ∧ o.verdict = verdictOf false o.flags ∧
      (∀ i, e.recipe = some i → t.rps.refs = s.rps.refs.set i (s.rps.refs[i] - 1)) ∧ t.ctr.exitBlocked = true ∧
      (∀ r, s.oldestTravel? = some r → reaches r → t.ctr.table.map (fun x => (x.entryPos, x.stage)) =
        (s.ctr.table.filter fun x => x.entryPos != e.entryPos).map fun x =>
          (x.entryPos, if x.entryPos = r.entryPos then .exiting else x.stage)) ∧
      ((∀ r, s.oldestTravel? = some r → ¬reaches r) → t.ctr.table.map (fun x => (x.entryPos, x.stage)) =
          (s.ctr.table.filter fun x => x.entryPos != e.entryPos).map (fun x => (x.entryPos, x.stage)) ∧
        ∃ i ∈ t.inl.incidents, i.code = .phantomExit ∧ i.value = valueOf (s.ctr.hwm.toNat : Int))

/-- The exit trailing edge completes the board in EXITING: its record leaves the table, its recipe's reference is released, and
an outcome with the next number, the present TIME_MS as exit time and the record's tag, recipe and fields joins the queue with
the verdict of its flags: LOST for a lost board, else REJECT, DEVIATED or PASS by the first line of Table 10.5 that applies. With
E above 0 the edge is not used for tracking, and with no record in EXITING it is ignored. -/
def Obligations.ExitTrailingEdgeFormsOutcome : Prop :=
  (∀ f, verdictOf true f = .lost) ∧
  (∀ f : BoardFlags, verdictOf false f = .reject ↔
    (f.unscheduled = true ∨ f.positionUnsure = true ∨ f.tripped = true ∨ f.waveInterrupted = true ∨ f.parked = true ∨
      f.profileMismatch = true)) ∧
  (∀ f : BoardFlags, verdictOf false f = .deviated ↔ verdictOf false f ≠ .reject ∧
    (f.fluxDeviation = true ∨ f.preheatDeviation = true ∨ f.toptempDeviation = true ∨ f.waveDeviation = true ∨
      f.speedDeviation = true)) ∧
  (∀ f : BoardFlags, verdictOf false f = .pass ↔ verdictOf false f ≠ .reject ∧ f.fluxDeviation = false ∧
    f.preheatDeviation = false ∧ f.toptempDeviation = false ∧ f.waveDeviation = false ∧ f.speedDeviation = false) ∧
  (∀ s : State, s.ctr.exitBlocked = true →
    let taken := { s with pins := { s.pins with exitBlocked := false }, ctr := { s.ctr with exitBlocked := false } }
    (0 < s.ctr.excursion → exec .exitTrailingEdge s = .next (State.addIncident .sensorReversed (some .exit) none
      (valueOf (s.ctr.excursion : Int)) { taken with ctr := { taken.ctr with
        table := s.ctr.table.map fun r => { r with flags := { r.flags with positionUnsure := true } } } })) ∧
    (s.ctr.excursion = 0 → s.exiting? = none → exec .exitTrailingEdge s = .next taken.finish)) ∧
  (∀ f : BoardFlags, verdictOf false { f with extractionEvent := !f.extractionEvent } = verdictOf false f) ∧
  ∀ (s : State) (r : BoardRecord), s.ctr.exitBlocked = true → s.ctr.excursion = 0 → s.exiting? = some r →
    s.record? r.entryPos = some r → ∃ t o, exec .exitTrailingEdge s = .next t ∧
      t.oq = ⟨s.oq.outcomes ++ [o], s.oq.counter + 1⟩ ∧ o.number = s.oq.counter + 1 ∧ o.exitTime = s.timeMs ∧
      o.tag = r.tag ∧ o.recipe = r.recipe ∧ o.entryTime = r.entryTime ∧ o.length = r.length.getD 0 ∧ o.marks = r.marks ∧
      o.topTemp = r.topTemp ∧ o.wave = r.wave ∧ o.contactMs = r.contactMs ∧ o.verdict = verdictOf false o.flags ∧
      (r.flux ≠ .pending → r.flux ≠ .active → (∀ l : Fin 8, (s.fdu.lanes[l]).owner ≠ some r.entryPos) →
        o.flags = r.flags ∧ o.flux = r.flux ∧ o.doses = r.doses) ∧
      t.ctr.exitBlocked = false ∧ t.ctr.table.length + 1 = s.ctr.table.length ∧
      (∀ i, r.recipe = some i → t.rps.refs = s.rps.refs.set i (s.rps.refs[i] - 1)) ∧
      t.adu.queue = s.adu.queue ∧ t.settings = s.settings

/-- ADD_TICKET answers the number of tickets held and appends the ticket with a reference to its recipe, or is refused in the
order RANGE, NO_RECIPE, DUPLICATE, FULL. FLUSH_TICKETS on Port M or Port T removes every ticket, lowers each named recipe's
reference count by the tickets that named it, and answers OK with the number removed; no record changes, and the next recipe
becomes the default. -/
def Obligations.TicketsJoinAndFlush : Prop :=
  (∀ (p : Port) (pl : List Byte) (s : State), s.Accepts .addTicket p pl →
      let tag := if byteAt pl 0 = 1 then some (BitVec.ofNat 32 (longAt pl 1)) else none
      let refusedWith := fun st => exec (.addTicket p pl) s = .next ((s.hunt p).respond p 0x20#8 ⟨st, []⟩)
      (31 < byteAt pl 5 ∨ 1 < byteAt pl 0 → refusedWith .range) ∧
      ∀ i : Fin 32, i.val = byteAt pl 5 → byteAt pl 0 ≤ 1 →
        (s.rps.recipes[i] = none → refusedWith .noRecipe) ∧
        (s.rps.recipes[i] ≠ none → (∃ x, tag = some x ∧ ((∃ k ∈ s.adu.queue, k.tag = some x) ∨
          ∃ r ∈ s.ctr.table, r.tag = some x)) → refusedWith .duplicate) ∧
        (s.rps.recipes[i] ≠ none → (∀ x, tag = some x → (∀ k ∈ s.adu.queue, k.tag ≠ some x) ∧
          ∀ r ∈ s.ctr.table, r.tag ≠ some x) →
          (4 ≤ s.adu.queue.length + (if s.placeReserved then 1 else 0) → refusedWith .full) ∧
          (s.adu.queue.length + (if s.placeReserved then 1 else 0) < 4 →
            exec (.addTicket p pl) s = .next (State.respond p 0x20#8 ⟨.ok, put1 (s.adu.queue.length + 1)⟩
              (State.finish { s.hunt p with
                adu := { s.adu with queue := s.adu.queue ++ [⟨tag, i⟩] }
                rps := { s.rps with refs := s.rps.refs.set i (s.rps.refs[i] + 1) } }))))) ∧
  ∀ (p : Port) (pl : List Byte) (s : State), s.Accepts .flushTickets p pl → ∃ u : State,
    exec (.flushTickets p pl) s = .next (State.respond p 0x22#8 ⟨.ok, put1 s.adu.queue.length⟩ u.finish) ∧
      u = { s.hunt p with adu := { s.adu with queue := [] }, rps := { s.rps with refs := u.rps.refs } } ∧
      (∀ i : Fin 32, u.rps.refs[i] = s.rps.refs[i] - s.adu.queue.countP fun k => k.recipe = i) ∧
      u.nextRecipe = s.adu.default

/-- WITHDRAW_TICKET, in every process state, removes the youngest ticket, lowers its recipe's reference count and answers OK
with its tag and recipe; with the queue empty it is refused with EMPTY. A ticket bound to a record is not removed, and when the
ticket was the only one the next recipe becomes the default. -/
def Obligations.WithdrawTicketRemovesYoungest : Prop :=
  ∀ (pl : List Byte) (s : State), (s.scp.ports.get .m).waiting = none → (s.scp.ports.get .m).answering = none → pl = [] →
    (s.adu.queue = [] → exec (.withdrawTicket .m pl) s = .next ((s.hunt .m).respond .m 0x21#8 ⟨.empty, []⟩)) ∧
    ∀ k rest, s.adu.queue = rest ++ [k] →
      let removed := { s.hunt .m with
        adu := { s.adu with queue := rest }
        rps := { s.rps with refs := s.rps.refs.set k.recipe (s.rps.refs[k.recipe] - 1) } }
      exec (.withdrawTicket .m pl) s = .next (State.respond .m 0x21#8 ⟨.ok,
        (match k.tag with
          | some x => put1 1 ++ putWord x
          | none => put1 0 ++ putWord 0) ++ put1 k.recipe.val⟩ removed.finish) ∧
      removed.ctr = s.ctr ∧ (rest = [] → removed.nextRecipe = s.adu.default)

/-- SET_DEFAULT, in every process state: an index above 31 other than none is refused with RANGE and an EMPTY recipe with
NO_RECIPE, the designation unchanged; otherwise, and for none always, the designation is replaced and the answer is OK. No
reference count and no record changes. The designation is none after power-on reset and stands across pin reset and RESTART. -/
def Obligations.SetDefaultReplacesDesignation : Prop :=
  (∀ (pl : List Byte) (s : State), (s.scp.ports.get .t).waiting = none → (s.scp.ports.get .t).answering = none →
    pl.length = 1 →
    let designated := fun d => State.finish { s.hunt .t with adu := { s.adu with default := d } }
    (byteAt pl 0 = 255 →
      exec (.setDefault .t pl) s = .next (State.respond .t 0x23#8 ⟨.ok, []⟩ (designated none))) ∧
    (byteAt pl 0 ≠ 255 → 31 < byteAt pl 0 →
      exec (.setDefault .t pl) s = .next ((s.hunt .t).respond .t 0x23#8 ⟨.range, []⟩)) ∧
    ∀ i : Fin 32, i.val = byteAt pl 0 →
      (s.rps.recipes[i] = none →
        exec (.setDefault .t pl) s = .next ((s.hunt .t).respond .t 0x23#8 ⟨.noRecipe, []⟩)) ∧
      (s.rps.recipes[i] ≠ none →
        exec (.setDefault .t pl) s = .next (State.respond .t 0x23#8 ⟨.ok, []⟩ (designated (some i))) ∧
        (designated (some i)).rps.refs = s.rps.refs ∧ (designated (some i)).adu.default = some i ∧
        (designated (some i)).recipeProtected i = true ∧
        (designated (some i)).ctr.table.map BoardRecord.recipe = s.ctr.table.map BoardRecord.recipe)) ∧
  (∀ (s : State) (pins : InputPins), (s.powerOn pins).adu.default = none) ∧
  (∀ (s : State) (pins : InputPins), (s.pinReset pins).adu.default = s.adu.default) ∧
  ∀ s : State, s.restart.adu.default = s.adu.default

/-- SET_GEOMETRY stores the thirteen values with g clamped to 0 to 1000 and w to 20 to 500 and makes the map VALID; with a board
in the table it is refused with STATE, with values out of order with RANGE. Nothing else changes. -/
def Obligations.SetGeometryStoresMap : Prop :=
  ∀ (p : Port) (pl : List Byte) (s : State), s.Accepts .setGeometry p pl →
    let at' := fun n => wordAt pl (2 * n)
    let g := if 1000 < at' 10 then 1000 else at' 10
    let w := if at' 12 < 20 then 20 else if 500 < at' 12 then 500 else at' 12
    let map : StationMap := ⟨at' 0, at' 1, at' 2, at' 3, at' 4, at' 5, at' 6, at' 7, at' 8, at' 9, g, at' 11, w⟩
    (s.ctr.table ≠ [] → exec (.setGeometry p pl) s = .next ((s.hunt p).respond p 0x29#8 ⟨.state, []⟩)) ∧
    (s.ctr.table = [] → map.sound = false →
      exec (.setGeometry p pl) s = .next ((s.hunt p).respond p 0x29#8 ⟨.range, []⟩)) ∧
    (s.ctr.table = [] → map.sound = true → exec (.setGeometry p pl) s = .next (State.respond p 0x29#8
      ⟨if g ≠ at' 10 ∨ w ≠ at' 12 then .clamped else .ok, []⟩
      { s.hunt p with ctr := { s.ctr with map := map, mapValid := true } })) ∧
    (map.sound = true ↔ 0 < map.pf ∧ map.pf < map.z1in ∧ map.z1in < map.z1out ∧ map.z1out ≤ map.z2in ∧
      map.z2in < map.z2out ∧ map.z2out ≤ map.z3in ∧ map.z3in < map.z3out ∧ map.z3out ≤ map.pp ∧ 6000 ≤ map.pp ∧
      map.pp + map.g < map.pc ∧ map.pc < map.pm ∧ map.pm + map.g < map.px ∧ map.px ≤ 60000)

/-! ## The Recipe and Profile Store -/

/-- LOAD_PROFILE, ERASE_PROFILE and SELECT_PROFILE. Each refuses an index above 7 with RANGE. LOAD_PROFILE is refused in the
order RANGE, IN_USE, RANGE and otherwise stores the fields, each clamped to its range; a reload of the active profile
restarts the settle in WARMING and READY and reaches the pumps and the limits at once. ERASE_PROFILE refuses the active
profile and one that a LOADED recipe names. SELECT_PROFILE refuses an EMPTY profile and otherwise makes the profile active.
-/
def Obligations.ProfileCommands : Prop :=
  (∀ (p : Port) (pl : List Byte) (s : State), 7 < byteAt pl 0 →
    (s.Accepts .loadProfile p pl → exec (.loadProfile p pl) s = .next ((s.hunt p).respond p 0x24#8 ⟨.range, []⟩)) ∧
    (s.Accepts .eraseProfile p pl → exec (.eraseProfile p pl) s = .next ((s.hunt p).respond p 0x25#8 ⟨.range, []⟩)) ∧
    (s.Accepts .selectProfile p pl → exec (.selectProfile p pl) s = .next ((s.hunt p).respond p 0x26#8 ⟨.range, []⟩))) ∧
  ∀ (p : Port) (pl : List Byte) (s : State) (i : Fin 8), i.val = byteAt pl 0 →
    let q := requestProfile pl
    let kept : Profile := ⟨clampNat 500 3500 q.z1, clampNat 500 3500 q.z2, clampNat 500 3500 q.z3, clampNat 2000 3000 q.pot,
      clampNat 20 200 q.band, clampNat 0 1000 q.chip, clampNat 100 1000 q.main, clampNat 5 50 q.speedMin,
      clampNat 5 50 q.speedMax, clampNat 10 600 q.settleTime, clampNat 0 300 q.boost⟩
    let stored := { s.hunt p with rps := { s.rps with profiles := s.rps.profiles.set i (some kept) } }
    let busy := s.psc.state.runOrDrain || s.psc.state.isHold
    let status : Status := if kept = q then .ok else .clamped
    let warm := s.psc.state = .warming ∨ s.psc.state = .ready
    (s.Accepts .loadProfile p pl →
      (s.rps.active = some i → busy = true →
        exec (.loadProfile p pl) s = .next ((s.hunt p).respond p 0x24#8 ⟨.inUse, []⟩)) ∧
      ((s.rps.active ≠ some i ∨ busy = false) → kept.speedMax < kept.speedMin →
        exec (.loadProfile p pl) s = .next ((s.hunt p).respond p 0x24#8 ⟨.range, []⟩)) ∧
      (s.rps.active ≠ some i → kept.speedMin ≤ kept.speedMax →
        exec (.loadProfile p pl) s = .next (State.respond p 0x24#8 ⟨status, []⟩ stored)) ∧
      (s.rps.active = some i → busy = false → kept.speedMin ≤ kept.speedMax →
        exec (.loadProfile p pl) s = .next (State.respond p 0x24#8 ⟨status, []⟩ (State.finish (State.profileChanged
          (if warm then { stored with rps := { stored.rps with settle := .settling, settleTimer := 0 } } else stored)))))) ∧
    (s.Accepts .eraseProfile p pl →
      (s.rps.active = some i ∨ (∃ j : Fin 32, (s.rps.recipes[j]).map Recipe.profile = some i) →
        exec (.eraseProfile p pl) s = .next ((s.hunt p).respond p 0x25#8 ⟨.inUse, []⟩)) ∧
      (s.rps.active ≠ some i → (∀ j : Fin 32, (s.rps.recipes[j]).map Recipe.profile ≠ some i) →
        exec (.eraseProfile p pl) s = .next (State.respond p 0x25#8 ⟨.ok, []⟩
          { s.hunt p with rps := { s.rps with profiles := s.rps.profiles.set i none } }))) ∧
    (s.Accepts .selectProfile p pl →
      (s.rps.profiles[i] = none →
        exec (.selectProfile p pl) s = .next ((s.hunt p).respond p 0x26#8 ⟨.noProfile, []⟩)) ∧
      (s.rps.profiles[i] ≠ none →
        exec (.selectProfile p pl) s = .next (State.respond p 0x26#8 ⟨.ok, []⟩ (State.finish (State.profileChanged
          { s.hunt p with rps := { s.rps with
            active := some i
            settle := if warm then .settling else s.rps.settle
            settleTimer := if warm then 0 else s.rps.settleTimer } })))))

/-- LOAD_RECIPE and ERASE_RECIPE. Both refuse an index above 31 with RANGE and a recipe that is named or is the default with
IN_USE; LOAD_RECIPE then refuses an EMPTY profile with NO_PROFILE and an unprintable name or fields that do not agree with RANGE,
and stores the fields clamped; ERASE_RECIPE makes the record EMPTY, after which the recipe can be neither ticketed nor
designated. Nothing else changes. -/
def Obligations.RecipeCommands : Prop :=
  ∀ (p : Port) (pl : List Byte) (s : State),
    (∀ i : Fin 32, i.val = byteAt pl 0 → (0 < s.rps.refs[i] ∨ s.adu.default = some i) →
      (s.Accepts .loadRecipe p pl → exec (.loadRecipe p pl) s = .next ((s.hunt p).respond p 0x27#8 ⟨.inUse, []⟩)) ∧
      (s.Accepts .eraseRecipe p pl → exec (.eraseRecipe p pl) s = .next ((s.hunt p).respond p 0x28#8 ⟨.inUse, []⟩))) ∧
    (31 < byteAt pl 0 →
      (s.Accepts .loadRecipe p pl → exec (.loadRecipe p pl) s = .next ((s.hunt p).respond p 0x27#8 ⟨.range, []⟩)) ∧
      (s.Accepts .eraseRecipe p pl → exec (.eraseRecipe p pl) s = .next ((s.hunt p).respond p 0x28#8 ⟨.range, []⟩))) ∧
    ∀ i : Fin 32, i.val = byteAt pl 0 → s.rps.refs[i] = 0 → s.adu.default ≠ some i →
      (s.Accepts .eraseRecipe p pl →
        let erased := { s.hunt p with rps := { s.rps with recipes := s.rps.recipes.set i none } }
        exec (.eraseRecipe p pl) s = .next (State.respond p 0x28#8 ⟨.ok, []⟩ erased) ∧
        (∀ qs, i.val = byteAt qs 5 → byteAt qs 0 ≤ 1 → (cmdAddTicket qs erased).1.status = .noRecipe) ∧
        ∀ qs, i.val = byteAt qs 0 → (cmdSetDefault qs erased).1.status = .noRecipe) ∧
      (s.Accepts .loadRecipe p pl →
        ((∀ q : Fin 8, q.val = byteAt pl 9 → s.rps.profiles[q] = none) →
          exec (.loadRecipe p pl) s = .next ((s.hunt p).respond p 0x27#8 ⟨.noProfile, []⟩)) ∧
        ∀ q : Fin 8, q.val = byteAt pl 9 → s.rps.profiles[q] ≠ none →
          let given := requestRecipe pl q
          let kept : Recipe := { given with
            density := clampNat 0 1500 given.density, leadIn := clampNat 0 1000 given.leadIn
            leadOut := clampNat 0 1000 given.leadOut, contactMin := clampNat 500 10000 given.contactMin
            contactMax := clampNat 500 10000 given.contactMax, topMin := clampNat 500 2000 given.topMin
            topMax := clampNat 500 2000 given.topMax, minGap := clampNat 100 5000 given.minGap }
          let sound := (∀ b ∈ given.name, 0x20 ≤ b.toNat ∧ b.toNat ≤ 0x7E) ∧
            (0 < kept.density → kept.laneMask ≠ 0#8) ∧ kept.contactMin ≤ kept.contactMax ∧ kept.topMin ≤ kept.topMax
          (¬sound → exec (.loadRecipe p pl) s = .next ((s.hunt p).respond p 0x27#8 ⟨.range, []⟩)) ∧
          (sound → exec (.loadRecipe p pl) s = .next (State.respond p 0x27#8 ⟨if kept = given then .ok else .clamped, []⟩
            { s.hunt p with rps := { s.rps with recipes := s.rps.recipes.set i (some kept) } })))

/-- The settle becomes SETTLED when its timer stands at the active profile's settle time with every settle condition holding, and
the grace timer of ADMIT enters IDLE when it stands at the grace. -/
def Obligations.SettleAndGraceEnd : Prop :=
  ∀ s : State,
    (∀ q, s.rps.settle = .settling → s.settleOk = true → s.activeProfile = some q →
      q.settleTime * 1000 ≤ s.rps.settleTimer →
      exec .settled s = .next (State.finish { s with rps := { s.rps with settle := .settled } })) ∧
    ∀ n, s.adu.grace = some n → s.params.admitGrace ≤ n →
      exec .admitGraceExpiry s = .next { s with adu := { s.adu with grace := none } }

/-! ## The Flux Dosing Unit -/

/-- SET_NOZZLE stores the nozzle record with its numbers clamped, refused with RANGE for a lane or enable byte that does not exist
and with IN_USE while pulses are owed; REFILL_FLUX replaces the reservoir estimate and latches RESERVOIR_LOW where it is clear and
the estimate is below the threshold; ACK_FLUX clears FLUX_PRESSURE, RESERVOIR_LOW and the qualify count. -/
def Obligations.FluxCommands : Prop :=
  ∀ (p : Port) (pl : List Byte) (s : State),
    (s.Accepts .setNozzle p pl →
      (7 < byteAt pl 0 ∨ 1 < byteAt pl 2 →
        exec (.setNozzle p pl) s = .next ((s.hunt p).respond p 0x2A#8 ⟨.range, []⟩)) ∧
      ∀ l : Fin 8, l.val = byteAt pl 0 → byteAt pl 2 ≤ 1 →
        (0 < (s.fdu.lanes[l]).owed → exec (.setNozzle p pl) s = .next ((s.hunt p).respond p 0x2A#8 ⟨.inUse, []⟩)) ∧
        ((s.fdu.lanes[l]).owed = 0 →
          let kept : Nozzle := ⟨clampNat 10 250 (byteAt pl 1), byteAt pl 2 == 0, clampNat 5 50 (byteAt pl 3),
            clampNat 5 50 (byteAt pl 4)⟩
          exec (.setNozzle p pl) s = .next (State.respond p 0x2A#8
            ⟨if kept.quantum = byteAt pl 1 ∧ kept.onTime = byteAt pl 3 ∧ kept.offTime = byteAt pl 4 then .ok
              else .clamped, []⟩
            { s.hunt p with fdu := { s.fdu with nozzles := s.fdu.nozzles.set l kept } }))) ∧
    (s.Accepts .refillFlux p pl →
      let ul := if 4000000 < longAt pl 0 then 4000000 else longAt pl 0
      let status : Status := if 4000000 < longAt pl 0 then .clamped else .ok
      let filled := { s.hunt p with fdu := { s.fdu with reservoir := ul * 1000 } }
      ((s.fdu.reservoirLow = true ∨ s.params.reservoirLow ≤ ul) →
        exec (.refillFlux p pl) s = .next (State.respond p 0x2B#8 ⟨status, []⟩ filled.followAlarms)) ∧
      (s.fdu.reservoirLow = false → ul < s.params.reservoirLow →
        exec (.refillFlux p pl) s = .next (State.respond p 0x2B#8 ⟨status, []⟩ (State.followAlarms (State.newLatch .flux
          ({ filled with fdu := { filled.fdu with reservoirLow := true } }.addIncident .reservoirLow none none
            (valueOf (ul : Int)))))))) ∧
    (s.Accepts .ackFlux p pl →
      exec (.ackFlux p pl) s = .next (State.respond p 0x41#8 ⟨.ok, []⟩ (State.finish { s.hunt p with
        fdu := { s.fdu with fluxPressure := false, reservoirLow := false, qualify := 0 } })))

/-- At the end of the on time the valve closes and HOLDOFF begins with the pulse's off time. At the end of the off time the
generator becomes IDLE; where pulses are owed, the state is not TRIP and the inhibit is not CUT, it starts a pulse at once, which
lowers the owed counter, the reservoir by the quantum and credits the owner with one delivered pulse. At an advance each open
lane accumulates its owner's V, made pulses are owed up to 15 and the rest is shortfall, an ACTIVE record counts a sprayed
advance, and each idle lane that owes starts a pulse (the order of the lanes is the model's choice, log 49, and is not stated);
at its window start a record is SKIPPED where the window may not open, and otherwise ACTIVE, owning its enabled lanes at Q/2 with
the pulses still owed there handed over; at its window end an ACTIVE record's lanes close, a disabled lane's shortfall is set,
and the record is DONE without shortfall or disabled lane, PARTIAL otherwise, and a PENDING record is SKIPPED. -/
def Obligations.ValvePhasesEnd : Prop :=
  (∀ (l : Fin 8) (s : State),
    (∀ off, (s.fdu.lanes[l]).gen = .on 0 off → exec (.valveOnEnd l) s = .next { s with
      fdu := { s.fdu with lanes := s.fdu.lanes.set l { s.fdu.lanes[l] with gen := .holdoff off } } }) ∧
    ((s.fdu.lanes[l]).gen = .holdoff 0 →
      ((s.fdu.lanes[l]).owed = 0 ∨ s.psc.state.isTrip = true ∨ s.fdu.inhibit = some .cut →
        exec (.holdoffEnd l) s = .next (State.followAlarms { s with
          fdu := { s.fdu with lanes := s.fdu.lanes.set l { s.fdu.lanes[l] with gen := .idle } } })) ∧
      (0 < (s.fdu.lanes[l]).owed → s.psc.state.isTrip = false → s.fdu.inhibit ≠ some .cut →
        ∃ t, exec (.holdoffEnd l) s = .next t ∧
          t.fdu.lanes = s.fdu.lanes.set l { s.fdu.lanes[l] with
            owed := (s.fdu.lanes[l]).owed - 1
            gen := .on (s.fdu.nozzles[l]).onTime (s.fdu.nozzles[l]).offTime } ∧
          t.fdu.reservoir = s.fdu.reservoir - (s.fdu.nozzles[l]).quantum ∧
          t.fdu.reservoirLow = (s.fdu.reservoirLow ||
            decide (s.fdu.reservoir - (s.fdu.nozzles[l]).quantum < s.params.reservoirLow * 1000)) ∧
          t.ctr = { s.ctr with table := s.ctr.table.map fun r =>
            if (s.fdu.lanes[l]).owner = some r.entryPos then { r with doses := r.doses.map fun d =>
              if d.lane = l then { d with delivered := min (d.delivered + 1) 65535 } else d } else r } ∧
          t.adu = s.adu ∧ t.rps = s.rps ∧ t.hcu = s.hcu ∧ t.wpu = s.wpu ∧ t.lvu = s.lvu ∧ t.exm = s.exm ∧ t.psc = s.psc ∧
          t.oq = s.oq ∧ t.params = s.params ∧ t.timeMs = s.timeMs))) ∧
  ∀ (a b : Bool) (s : State), turnOf s.ctr.encA s.ctr.encB a b = .forward → past (s.ctr.pos + 1) s.ctr.hwm = true →
    s.KeysDiffer → s.fdu.inhibit = s.inhibitCause →
    s.ctr.table ≠ [] ∨ s.nextProfile = none ∨ s.nextProfile = s.rps.active →
    (s.ctr.mapValid = true → s.ctr.table.all (fun r => !s.strays r) = true) →
    ∃ t, exec (.encoderCount a b) s = .next t ∧
      let pulse := fun l : Fin 8 => (s.fdu.nozzles[l]).quantum * 1000
      let fed := fun l : Fin 8 => if (s.fdu.lanes[l]).window then
        (s.fdu.lanes[l]).owner.bind fun k => s.ctr.table.find? fun r => r.entryPos == k else none
      let total := fun l : Fin 8 => (s.fdu.lanes[l]).acc + match (fed l).bind s.recipeOf with
        | some c => c.density * 50
        | none => 0
      let made := fun l : Fin 8 => if (fed l).isSome then total l / pulse l else 0
      let owed := fun l : Fin 8 => (s.fdu.lanes[l]).owed + min (made l) (15 - (s.fdu.lanes[l]).owed)
      let spill := fun l : Fin 8 => made l - min (made l) (15 - (s.fdu.lanes[l]).owed)
      let spills := fun (r : BoardRecord) (l : Fin 8) => decide ((fed l).map BoardRecord.entryPos = some r.entryPos) &&
        decide (0 < spill l)
      let fires := fun l : Fin 8 => (s.fdu.lanes[l]).gen == .idle && decide (0 < owed l) && !s.psc.state.isTrip &&
        s.fdu.inhibit != some .cut
      let others := fun r : BoardRecord => s.ctr.table.all fun x => x.entryPos == r.entryPos || !s.meetsWindow x
      let become := fun (r : BoardRecord) (P : BoardRecord → Prop) =>
        ∃ r' ∈ t.ctr.table, r'.entryPos = r.entryPos ∧ r'.recipe = r.recipe ∧ P r'
      ((s.ctr.mapValid = false ∨ s.ctr.table.all (fun r => !s.meetsWindow r) = true) →
        (∀ l : Fin 8, t.fdu.lanes[l] = { s.fdu.lanes[l] with
          acc := if (fed l).isSome then total l % pulse l else (s.fdu.lanes[l]).acc
          owed := if fires l then owed l - 1 else owed l
          gen := if fires l then .on (s.fdu.nozzles[l]).onTime (s.fdu.nozzles[l]).offTime else (s.fdu.lanes[l]).gen }) ∧
        t.fdu.reservoir = s.fdu.reservoir -
          (((List.finRange 8).filter fires).map fun l => (s.fdu.nozzles[l]).quantum).sum ∧
        t.fdu.reservoirLow = (s.fdu.reservoirLow || ((List.finRange 8).any fires &&
          decide (t.fdu.reservoir < s.params.reservoirLow * 1000))) ∧
        t.ctr.table.map (fun r => (r.entryPos, r.flux, r.sprayed, r.doses, r.flags.fluxDeviation)) =
          s.ctr.table.map (fun r =>
            (r.entryPos, if r.flux = .done ∧ (List.finRange 8).any (spills r) = true then .partly else r.flux,
             if r.flux = .active then r.sprayed + 1 else r.sprayed,
             r.doses.map fun d => { d with
               delivered := if fires d.lane ∧ (s.fdu.lanes[d.lane]).owner = some r.entryPos
                 then min (d.delivered + 1) 65535 else d.delivered
               shortfall := if spills r d.lane then min (d.shortfall + spill d.lane) 65535 else d.shortfall },
             r.flags.fluxDeviation || (List.finRange 8).any (spills r)))) ∧
      (s.ctr.mapValid = true → ∀ r ∈ s.ctr.table, others r = true → ∀ c, s.recipeOf r = some c →
        let void := match r.length with
          | some l => decide (l ≤ c.leadIn + c.leadOut)
          | none => false
        (r.flux = .pending → s.nextHead r = (s.ctr.map.pf : Int) + (c.leadIn : Int) →
          (s.psc.state.sprays = false ∨ s.fdu.inhibit.isSome = true ∨ void = true →
            become r fun r' => r'.flux = .skipped ∧ r'.flags.fluxDeviation = true) ∧
          (s.psc.state.sprays = true → s.fdu.inhibit = none → void = false →
            (become r fun r' => r'.flux = .active ∧ r'.sprayed = 0 ∧
              r'.doses.map LaneDose.lane = r.doses.map LaneDose.lane ∧
              (r.doses.any (fun d => !(s.fdu.nozzles[d.lane]).enabled) = true → r'.flags.fluxDeviation = true)) ∧
            ∀ d ∈ r.doses, (s.fdu.nozzles[d.lane]).enabled = true →
              t.fdu.lanes[d.lane] = ⟨pulse d.lane / 2, 0, some r.entryPos, true, (s.fdu.lanes[d.lane]).gen⟩ ∧
              (0 < owed d.lane → s.ctr.table.length ≤ 2 → ∃ i ∈ t.inl.incidents, i.code = .fluxHandover ∧
                i.subject = some (.lane d.lane) ∧ i.value = valueOf ((owed d.lane : Nat) : Int)))) ∧
        (r.flux = .active → s.nextTail r = some ((s.ctr.map.pf : Int) - (c.leadOut : Int)) →
          (∀ l : Fin 8, (s.fdu.lanes[l]).owner = some r.entryPos → (t.fdu.lanes[l]).window = false ∧
            ((s.fdu.lanes[l]).window = true → (t.fdu.lanes[l]).acc = 0)) ∧
          become r fun r' =>
            (r'.flux = if r.doses.all (fun d =>
                (s.fdu.nozzles[d.lane]).enabled && d.shortfall == 0 && !spills r d.lane) then .done else .partly) ∧
            (r'.flux = .partly → r'.flags.fluxDeviation = true) ∧
            r'.doses.map (fun d => (d.lane, d.shortfall)) = r.doses.map (fun d => (d.lane,
              if (s.fdu.nozzles[d.lane]).enabled then
                (if spills r d.lane then min (d.shortfall + spill d.lane) 65535 else d.shortfall)
              else min ((pulse d.lane / 2 + c.density * 50 * (r.sprayed + 1)) / pulse d.lane) 65535))) ∧
        (r.flux = .pending → s.nextTail r = some ((s.ctr.map.pf : Int) - (c.leadOut : Int)) →
          s.nextHead r ≠ (s.ctr.map.pf : Int) + (c.leadIn : Int) →
          become r fun r' => r'.flux = .skipped ∧ r'.flags.fluxDeviation = true))

/-- Each 100 ms a sample of FLUX_P replaces the latest pressure: valid from 3.5 to 21.0 mA, its pressure (I − 4.0 mA) × 600 /
16 mA truncated and clamped. In a checked state out of band, the qualify count rises, and at 5 FLUX_PRESSURE latches and the
inhibit becomes CUT; in band, or in a state that is not checked, the count is 0 and nothing latches. An entry to TRIP sets
the count to 0. -/
def Obligations.FluxPressureIsQualified : Prop :=
  ∀ (current : Nat) (s : State),
    let v : Sample Nat := if 3500 ≤ current ∧ current ≤ 21000
      then .valid (clampInt 0 600 ((((current : Int) - 4000) * 600).tdiv 16000)).toNat else .invalid
    let out := match v with
      | .valid x => decide (x < s.params.pMin) || decide (s.params.pMax < x)
      | _ => true
    (s.timeMs.toNat % 100 = 0 → ∃ t, exec (.fluxPressureSample current) s = .next t ∧ t.fdu.pressure = v ∧
      (let n := if s.psc.state.checksFlux = true ∧ out = true then s.fdu.qualify + 1 else 0;
        t.fdu.qualify = (if t.psc.state.isTrip = true then 0 else n) ∧
        t.fdu.fluxPressure = (s.fdu.fluxPressure || decide (5 ≤ n))) ∧
      (t.fdu.fluxPressure = true → t.fdu.inhibit = some .cut) ∧ t.fdu.reservoir = s.fdu.reservoir ∧
      t.settings = s.settings ∧ t.adu.queue = s.adu.queue ∧ t.oq = s.oq ∧ t.lvu.last = s.lvu.last) ∧
    (s.fdu.fluxPressure = false → 5 ≤ s.fdu.qualify → ∃ t, exec .fluxPressure s = .next t ∧ t.fdu.fluxPressure = true ∧
      t.fdu.inhibit = some .cut ∧ (t.psc.state.isTrip = s.psc.state.isTrip → t.fdu.qualify = s.fdu.qualify) ∧
      (∀ l : Fin 8, (t.fdu.lanes[l]).valveOpen = false ∨
        s.fdu.inhibit = some .cut) ∧ t.settings = s.settings ∧ t.adu.queue = s.adu.queue ∧ t.oq = s.oq)

/-! ## The Heater Control Unit -/

/-- Each 250 ms a conversion becomes a channel's latest sample, valid from −50.0 to 500.0 degrees. At a valid sample that is
not above the overtemperature limit, with HEAT_EN asserted, an active profile, no flag on the channel and no MAINS_SYNC, the
integral and the power follow the six steps of the control computation. A valid sample of a zone under an active profile
marks every record in the zone OK in band, LOW below it and HIGH above it, or FAULT while TC_OPEN is latched, where that
ranks above its present mark; a mark above OK sets PREHEAT_DEVIATION. -/
def Obligations.ControlComputation : Prop :=
  (∀ (z : Zone) (t' : Int) (q : Profile) (s : State), s.timeMs.toNat % 250 = 0 → -500 ≤ t' → t' ≤ 5000 →
    s.activeProfile = some q → ∃ t, exec (.tcSample z.channel (some t')) s = .next t ∧
      let sp : Int := q.setpoint z.channel
      let m : Mark := if (s.hcu.ch.get z.channel).tcOpen then .fault else if t' < sp - q.band then .low
        else if sp + q.band < t' then .high else .ok
      t.ctr.table.map (fun r => (r.entryPos, r.marks, r.flags.preheatDeviation)) = s.ctr.table.map fun r =>
        if s.inZone r z ∧ (r.marks.get z).rank < m.rank then
          (r.entryPos, r.marks.set z m, r.flags.preheatDeviation || m != .ok)
        else (r.entryPos, r.marks, r.flags.preheatDeviation)) ∧
  ∀ (c : Channel) (t' : Int) (q : Profile) (s : State), s.timeMs.toNat % 250 = 0 → -500 ≤ t' → t' ≤ 5000 →
    s.activeProfile = some q → s.controls c = true →
    (t' ≤ min ((q.setpoint c : Int) + s.params.overtempMargin) 4000) →
    let g := s.params.gains.get c
    let i := (s.hcu.ch.get c).integral
    let d := (q.setpoint c : Int) - t'
    let e := if d < -1000 then -1000 else if 1000 < d then 1000 else d
    let x := i + g.ki * e
    let trial := if x < 0 then 0 else if 256000 < x then 256000 else x
    let boost := match channelZone c with
      | some z => if ∃ r ∈ s.ctr.table, s.inZone r z = true then q.boost else 0
      | none => 0
    let u := (g.kp * e).tdiv 16 + trial.tdiv 256 + boost
    let limit := if c ≠ .pot ∧ s.psc.state.isHold = true then min g.pmax s.params.holdLimit else g.pmax
    ∃ t, exec (.tcSample c (some t')) s = .next t ∧ (t.hcu.ch.get c).sample = .valid t' ∧ (t.hcu.ch.get c).invalid = 0 ∧
      (t.hcu.ch.get c).tcOpen = false ∧ (t.heatEn = true → (t.hcu.ch.get c).overtemp = false →
        (t.hcu.ch.get c).integral =
          (if ((g.pmax : Int) < u ∧ 0 < e) ∨ (u < 0 ∧ e < 0) then i else trial) ∧
        (t.hcu.ch.get c).power = (if u < 0 then 0 else if (limit : Int) < u then limit else u.toNat)) ∧
      (∀ c', c' ≠ c → (t.hcu.ch.get c').sample = (s.hcu.ch.get c').sample) ∧ t.settings = s.settings ∧
      t.adu.queue = s.adu.queue ∧ t.oq = s.oq

/-- The third consecutive invalid sample latches TC_OPEN and puts the channel at zero, and marks the records in the zone
FAULT; TC_OPEN on POT trips the part. MAINS_SYNC latches when 25 ms have passed without a half-cycle, puts every channel at
zero and trips the part with cause MAINS_SYNC. A valid sample above the channel's limit, the lesser of setpoint plus margin
and 4000 with HEAT_EN asserted and an active profile, and 4000 otherwise, latches OVERTEMP with its incident, puts the
channel at zero and trips the part; so does a WARM or a change of the active profile that leaves a sample above the new
limit, on every such channel. A POT sample that is invalid, under TC_OPEN, or below the setpoint less four times the band
ends POT_MOLTEN with MOLTEN_LOST and brings every pump to rest. -/
def Obligations.HeaterFaultsLatch : Prop :=
  ∀ s : State,
    let noSwitch := s.ctr.table ≠ [] ∨ s.nextProfile = none ∨ s.nextProfile = s.rps.active
    (∀ c x, s.timeMs.toNat % 250 = 0 → -500 ≤ x → x ≤ 5000 →
      let limit : Int := match s.activeProfile with
        | some q => if s.heatEn then min ((q.setpoint c : Int) + s.params.overtempMargin) 4000 else 4000
        | none => 4000
      ∃ t, exec (.tcSample c (some x)) s = .next t ∧ (t.hcu.ch.get c).sample = .valid x ∧ (t.hcu.ch.get c).invalid = 0 ∧
        (limit < x → (s.hcu.ch.get c).overtemp = false → (t.hcu.ch.get c).overtemp = true ∧ (t.hcu.ch.get c).AtZero ∧
          (s.psc.state.isTrip = false → t.psc.state = .trip (.overtemp c)) ∧
          ∃ i ∈ t.inl.incidents, i.code = .overtemp ∧ i.subject = some (.channel c) ∧ i.value = valueOf x) ∧
        (x ≤ limit → noSwitch → (t.hcu.ch.get c).overtemp = (s.hcu.ch.get c).overtemp)) ∧
    (∀ c x q p pl, (s.hcu.ch.get c).sample = .valid x → (s.hcu.ch.get c).overtemp = false →
      min ((q : Profile).setpoint c + (s.hcu.ch.get c).margin : Int) 4000 < x →
      (s.Accepts .warm p pl → s.activeProfile = some q → s.extractionReady = true → s.warmReady = true →
        ∃ t, exec (.warm p pl) s = .next t ∧ (t.hcu.ch.get c).overtemp = true ∧ (t.hcu.ch.get c).AtZero ∧
          ∃ k, t.psc.state = .trip (.overtemp k)) ∧
      (∀ i : Fin 8, s.Accepts .selectProfile p pl → i.val = byteAt pl 0 → s.rps.profiles[i] = some q → s.heatEn = true →
        ∃ t, exec (.selectProfile p pl) s = .next t ∧ (t.hcu.ch.get c).overtemp = true ∧ (t.hcu.ch.get c).AtZero ∧
          ∃ k, t.psc.state = .trip (.overtemp k))) ∧
    (∀ conv, s.timeMs.toNat % 250 = 0 → s.wpu.molten = true →
      let ends := match conversion conv, s.activeProfile with
        | .valid x, some q => s.hcu.ch.pot.tcOpen || decide (x < (q.pot : Int) - 4 * (q.band : Int))
        | .valid _, none => s.hcu.ch.pot.tcOpen
        | _, _ => true
      ∃ t, exec (.tcSample .pot conv) s = .next t ∧ t.wpu.molten = !ends ∧
        (ends = true → (∀ k, (t.wpu.pumps.get k).AtRest ∧ (¬(s.wpu.pumps.get k).AtRest →
            (t.wpu.pumps.get k).reference = 0)) ∧
          ∃ i ∈ t.inl.incidents, i.code = .moltenLost ∧ i.time = s.timeMs ∧ i.value = match conversion conv with
            | .valid x => valueOf x
            | _ => none)) ∧
    (∀ c, (s.hcu.ch.get c).tcOpen = false → 3 ≤ (s.hcu.ch.get c).invalid → ∃ t, exec (.tcOpen c) s = .next t ∧
      (t.hcu.ch.get c).tcOpen = true ∧ (t.hcu.ch.get c).AtZero ∧
      (c = .pot → s.psc.state.isTrip = false → t.psc.state = .trip .tcOpenPot) ∧
      (c = .pot → t.wpu.molten = false) ∧
      (∀ z, channelZone c = some z → ∀ r ∈ t.ctr.table, s.inZone r z = true → (r.marks.get z) = .fault) ∧
      (∀ c', c' ≠ c → (t.hcu.ch.get c').sample = (s.hcu.ch.get c').sample) ∧ t.settings = s.settings ∧
      t.adu.queue = s.adu.queue ∧ t.oq = s.oq) ∧
    (∀ c conv, s.timeMs.toNat % 250 = 0 → (conv = none ∨ ∃ x, conv = some x ∧ (x < -500 ∨ 5000 < x)) →
      ∃ t, exec (.tcSample c conv) s = .next t ∧ (t.hcu.ch.get c).sample = .invalid ∧
        (t.hcu.ch.get c).invalid = min ((s.hcu.ch.get c).invalid + 1) 255 ∧
        ((t.hcu.ch.get c).tcOpen = true ↔ (s.hcu.ch.get c).tcOpen = true ∨ 2 ≤ (s.hcu.ch.get c).invalid) ∧
        t.settings = s.settings ∧ t.adu.queue = s.adu.queue ∧ t.oq = s.oq) ∧
    (s.hcu.mainsSync = false → 25 ≤ (s.timeMs - s.hcu.lastHalf).toNat → s.psc.state.isTrip = false →
      ∃ t, exec .mainsSync s = .next t ∧ t.hcu.mainsSync = true ∧ (∀ c, (t.hcu.ch.get c).AtZero) ∧
        t.psc.state = .trip .mainsSync ∧ t.settings = s.settings ∧ t.adu.queue = s.adu.queue ∧ t.oq = s.oq)

/-- A half-cycle, taken unless it comes less than 4 ms after the last one: a channel takes part with HEAT_EN asserted, MAINS_SYNC
clear and no flag on it, wants to fire with F + P at 1000 or more, and is granted among the first N that want, from the channel
numbered RR on; the accumulators, the drives and RR follow, at most N drives are ON, and nothing else changes but the time of the
last half-cycle. -/
def Obligations.HalfCycleArbitration : Prop :=
  ∀ s : State, (s.hcu.edgeSeen = false ∨ 4 ≤ (s.timeMs - s.hcu.lastHalf).toNat) → s.hcu.rr < 4 →
    let takesPart := fun c => s.heatEn && !s.hcu.mainsSync && !(s.hcu.ch.get c).tcOpen && !(s.hcu.ch.get c).overtemp
    let wants := fun c => takesPart c && decide (1000 ≤ (s.hcu.ch.get c).firing + (s.hcu.ch.get c).power)
    let order := (([.z1, .z2, .z3, .pot, .z1, .z2, .z3, .pot] : List Channel).drop s.hcu.rr).take 4
    let granted := (order.filter wants).take s.params.concurrency
    let number : Channel → Nat := fun c => match c with | .z1 => 0 | .z2 => 1 | .z3 => 2 | .pot => 3
    ∃ h, exec .halfCycle s = .next { s with hcu := h } ∧ h.lastHalf = s.timeMs ∧ h.edgeSeen = true ∧
      h.mainsSync = s.hcu.mainsSync ∧ h.pyro = s.hcu.pyro ∧
      h.rr = (match granted.getLast? with | some c => (number c + 1) % 4 | none => s.hcu.rr) ∧
      (∀ c, h.ch.get c = { s.hcu.ch.get c with
        firing := if c ∈ granted then (s.hcu.ch.get c).firing + (s.hcu.ch.get c).power - 1000
          else if takesPart c = false then 0
          else if wants c = true then min ((s.hcu.ch.get c).firing + (s.hcu.ch.get c).power) 1999
          else (s.hcu.ch.get c).firing + (s.hcu.ch.get c).power
        ssr := decide (c ∈ granted) }) ∧
      (allChannels.filter fun c => (h.ch.get c).ssr).length ≤ s.params.concurrency

/-- PYRO is sampled at each multiple of 10 ms in every process state: a signal from 3.5 to 21.0 mA is valid, its temperature
(I − 4.0 mA) × 3000 / 16 mA truncated and clamped to 0 to 3000; each sample replaces the latest, which is none after all three
resets; nothing else changes. -/
def Obligations.PyroSampleReplacesLatest : Prop :=
  (∀ (current : Nat) (s : State), s.timeMs.toNat % 10 = 0 →
    exec (.pyroSample current) s = .next { s with hcu := { s.hcu with
      pyro := if 3500 ≤ current ∧ current ≤ 21000 then
          .valid (let x := (((current : Int) - 4000) * 3000).tdiv 16000
            if x < 0 then 0 else if 3000 < x then 3000 else x)
        else .invalid } }) ∧
  ∀ (s : State) (pins : InputPins),
    (s.powerOn pins).hcu.pyro = .none ∧ (s.pinReset pins).hcu.pyro = .none ∧ s.restart.hcu.pyro = .none

/-- At each multiple of 100 ms in HOLD every record that overlaps a preheat zone gains 100 ms of park time, saturating, and PARKED
where its park time is then past the park limit; nothing else changes. -/
def Obligations.ParkTimeAccumulates : Prop :=
  ∀ (s : State) (sub : HoldSub) (prior : Prior), s.timeMs.toNat % 100 = 0 → s.psc.state = .hold sub prior →
    let heated := fun r => s.overlaps r s.ctr.map.z1in s.ctr.map.z1out || s.overlaps r s.ctr.map.z2in s.ctr.map.z2out ||
      s.overlaps r s.ctr.map.z3in s.ctr.map.z3out
    let time := fun r : BoardRecord => min (r.parkTime + 100) 4294967295
    let parked := fun r : BoardRecord => { r with
      parkTime := time r
      flags := { r.flags with parked := r.flags.parked || decide (s.params.parkLimit * 1000 < time r) } }
    exec .parkTimeTick s = .next { s with ctr := { s.ctr with
      table := s.ctr.table.map fun r => if heated r then parked r else r } }

/-- ACK_HEATER clears both flags of a channel, refused with STATE while its TC_OPEN has no valid sample after it or its
OVERTEMP persists; subject 4 clears MAINS_SYNC, refused with STATE while mains sync is not present, also where the flag is
clear (DESIGN CHOICE, log 50); a subject above 4 is refused with RANGE. -/
def Obligations.AckHeaterClears : Prop :=
  ∀ (p : Port) (pl : List Byte) (s : State), s.Accepts .ackHeater p pl →
    let refusedWith := fun st => exec (.ackHeater p pl) s = .next ((s.hunt p).respond p 0x42#8 ⟨st, []⟩)
    (4 < byteAt pl 0 → refusedWith .range) ∧
    (byteAt pl 0 = 4 → 25 ≤ (s.timeMs - s.hcu.lastHalf).toNat → refusedWith .state) ∧
    (byteAt pl 0 = 4 → (s.timeMs - s.hcu.lastHalf).toNat < 25 → exec (.ackHeater p pl) s =
      .next (State.respond p 0x42#8 ⟨.ok, []⟩ (State.finish { s.hunt p with hcu := { s.hcu with mainsSync := false } }))) ∧
    ∀ c, channelAt (byteAt pl 0) = some c →
      let persists := (∃ x, (s.hcu.ch.get c).sample = .valid x ∧ s.overtempLimit c < x) ∨
        ∀ x, (s.hcu.ch.get c).sample ≠ .valid x
      let open' := (s.hcu.ch.get c).tcOpen = true ∧ ∀ x, (s.hcu.ch.get c).sample ≠ .valid x
      (open' ∨ ((s.hcu.ch.get c).overtemp = true ∧ persists) → refusedWith .state) ∧
      (¬open' → ((s.hcu.ch.get c).overtemp = true → ¬persists) → exec (.ackHeater p pl) s =
        .next (State.respond p 0x42#8 ⟨.ok, []⟩ (State.finish { s.hunt p with hcu := { s.hcu with
          ch := s.hcu.ch.set c { s.hcu.ch.get c with tcOpen := false, overtemp := false } } })))

/-! ## The Wave Pump Unit -/

/-- A valid POT sample with TC_OPEN clear that is at or above the setpoint less the band starts the melt timer where it was idle,
and sets POT_MOLTEN where it finds the timer at the melt hold; one below makes the timer idle. POT_MOLTEN_SET sets POT_MOLTEN
where it is false and the POT sample of this very TIME_MS found the timer at the melt hold (`ripe`), whatever the parameters are
by then, and changes nothing otherwise (DESIGN CHOICE, log 8). Each 100 ms a pump in STARTING,
DIPPED or STOPPING, but for one that entered its state at this very TIME_MS (the note `fresh`, DEDUCED, log 28), moves its
reference toward its target by the ramp step, and then settles: STARTING at its target with feedback becomes RUNNING, RUNNING
without feedback becomes STARTING, STOPPING at 0 becomes COOLDOWN; a change of feedback settles its pump; a pump that has
stood in COOLDOWN for the minimum off time becomes OFF and is started where that is permitted, as DIPPED in HOLDING. -/
def Obligations.PumpMotion : Prop :=
  ∀ s : State,
    let settled := fun u : PumpState =>
      if u.stage = .starting ∧ u.reference = u.target ∧ u.feedback = true then { u with stage := .running }
      else if u.stage = .running ∧ u.feedback = false then { u with stage := .starting, fresh := true }
      else if u.stage = .stopping ∧ u.reference = 0 then
        { u with stage := .cooldown, target := 0, minOff := 0, absent := 0 }
      else u
    let pace := if s.params.ramp / 10 = 0 then 1 else s.params.ramp / 10
    let moved := fun u : PumpState =>
      if (u.stage = .starting ∨ u.stage = .dipped ∨ u.stage = .stopping) ∧ u.fresh = false then
        let r := if u.reference < u.target then min (u.reference + pace) u.target else max (u.reference - pace) u.target
        { u with reference := r, absent := if r = 0 then 0 else u.absent }
      else u
    (∀ q x, s.timeMs.toNat % 250 = 0 → -500 ≤ x → x ≤ 5000 → s.activeProfile = some q → s.hcu.ch.pot.tcOpen = false →
      let start := s.wpu.meltStart.getD s.timeMs
      let held := s.params.meltHold * 1000 ≤ (s.timeMs - start).toNat
      ∃ t, exec (.tcSample .pot (some x)) s = .next t ∧
        ((q.pot : Int) - (q.band : Int) ≤ x → t.wpu.meltStart = some start ∧
          t.wpu.ripe = (if held then some s.timeMs else none) ∧ t.wpu.molten = (s.wpu.molten || decide held)) ∧
        (x < (q.pot : Int) - (q.band : Int) → t.wpu.meltStart = none ∧ t.wpu.ripe = none ∧
          t.wpu.molten = (s.wpu.molten && decide ((q.pot : Int) - 4 * (q.band : Int) ≤ x)))) ∧
    ((s.wpu.molten = true ∨ s.wpu.ripe ≠ some s.timeMs) → exec .potMoltenSet s = .next s) ∧
    (s.wpu.molten = false → s.wpu.ripe = some s.timeMs →
      exec .potMoltenSet s = .next (State.finish (State.startPumps { s with wpu := { s.wpu with molten := true } })) ∧
      ∃ t, exec .potMoltenSet s = .next t ∧ t.wpu.molten = true ∧ t.settings = s.settings ∧ t.adu.queue = s.adu.queue) ∧
    (s.timeMs.toNat % 100 = 0 → exec .pumpRampStep s = .next (State.finish { s with wpu := { s.wpu with
      pumps := ⟨settled (moved s.wpu.pumps.chip), settled (moved s.wpu.pumps.main)⟩ } })) ∧
    (∀ p present, (s.wpu.pumps.get p).feedback ≠ present → exec (.pumpFeedbackChange p present) s = .next (State.finish
      { s with
        pins := (match p with
          | .chip => { s.pins with runChip := present }
          | .main => { s.pins with runMain := present })
        wpu := { s.wpu with pumps := s.wpu.pumps.set p (settled { s.wpu.pumps.get p with
          feedback := present, absent := if present then 0 else (s.wpu.pumps.get p).absent }) } })) ∧
    ∀ p, (s.wpu.pumps.get p).stage = .cooldown → s.params.minimumOff * 1000 ≤ (s.wpu.pumps.get p).minOff →
      let rested := { s with wpu := { s.wpu with pumps := s.wpu.pumps.set p { s.wpu.pumps.get p with stage := .off } } }
      exec (.minimumOffExpiry p) s = .next (State.finish (rested.startPump p)) ∧
      (rested.mayStart p = true ↔ s.wpu.orderUp = true ∧ s.wpu.molten = true ∧ (s.wpu.pumps.get p).fault = false ∧
        0 < s.pumpSpeed p ∧ s.heatEn = true) ∧
      (rested.mayStart p = false → rested.startPump p = rested) ∧
      (rested.mayStart p = true → s.psc.state = .run → rested.startPump p = { rested with wpu := { rested.wpu with
        pumps := rested.wpu.pumps.set p { rested.wpu.pumps.get p with
          stage := .starting, target := s.pumpSpeed p, fresh := true } } }) ∧
      (∀ prior, rested.mayStart p = true → s.psc.state = .hold .holding prior → rested.startPump p = { rested with
        wpu := { rested.wpu with pumps := rested.wpu.pumps.set p { rested.wpu.pumps.get p with
          stage := .dipped, target := min s.params.idleSpeed (s.pumpSpeed p), fresh := true } } })

/-- A pump whose feedback has been absent for 500 ms with its reference above 0 comes to rest in COOLDOWN (OFF where
a TRIP follows at once) with PUMP_FAULT latched and incident PUMP_FAULT with the reference as value, and RUN moves to HOLD.
The other pump keeps its fault flag. -/
def Obligations.PumpFaultStopsPump : Prop :=
  ∀ (p : Pump) (s : State), (s.wpu.pumps.get p).fault = false → 0 < (s.wpu.pumps.get p).reference →
    (s.wpu.pumps.get p).feedback = false → 500 ≤ (s.wpu.pumps.get p).absent →
    let stopped := { s with wpu := { s.wpu with pumps := s.wpu.pumps.set p { s.wpu.pumps.get p with
      stage := .cooldown, reference := 0, target := 0, minOff := 0, absent := 0, fault := true } } }
    exec (.pumpFault p) s = .next (State.finish (State.holdBegins (State.watchProbe (State.newLatch .wave
      (stopped.addIncident .pumpFault (some (.pump p)) none (valueOf (s.wpu.pumps.get p).reference)))))) ∧
    ∃ t, exec (.pumpFault p) s = .next t ∧
      ((t.wpu.pumps.get p).stage = .cooldown ∨ ((t.wpu.pumps.get p).stage = .off ∧ t.psc.state.isTrip = true)) ∧
      (t.wpu.pumps.get p).reference = 0 ∧ (t.wpu.pumps.get p).fault = true ∧
      (∀ p', p' ≠ p → (t.wpu.pumps.get p').fault = (s.wpu.pumps.get p').fault) ∧
      (s.psc.state = .run → t.psc.state = .hold .holding .run) ∧ t.wpu.molten = s.wpu.molten ∧ t.settings = s.settings ∧
      t.adu.queue = s.adu.queue ∧ t.oq = s.oq

/-- WAVE_UP makes the wave order UP, restarts a pump in STOPPING whose profile speed is above 0 and starts a permitted one;
WAVE_DOWN makes it DOWN and stops the pumps in STARTING and RUNNING, leaving every other pump; ACK_PUMP clears PUMP_FAULT on
both pumps and evaluates the start permission. -/
def Obligations.WaveOrders : Prop :=
  ∀ (p : Port) (pl : List Byte) (s : State),
    (s.Accepts .waveUp p pl →
      let up := { s.hunt p with wpu := { s.wpu with orderUp := true } }
      let raised := fun (k : Pump) (u : State) => match (u.wpu.pumps.get k).stage with
        | .starting => u
        | .running => u
        | .stopping => if 0 < u.pumpSpeed k then u.modPump k (fun x => { x with
            stage := .starting, target := u.pumpSpeed k, fresh := true }) else u
        | .off => u.startPump k
        | .dipped => u
        | .cooldown => u
      exec (.waveUp p pl) s = .next (State.respond p 0x39#8 ⟨.ok, []⟩ (State.finish (raised .main (raised .chip up))))) ∧
    (s.Accepts .waveDown p pl →
      let stopped := fun u : PumpState => if u.stage = .starting ∨ u.stage = .running then
        { u with stage := .stopping, target := 0, fresh := true } else u
      exec (.waveDown p pl) s = .next (State.respond p 0x3A#8 ⟨.ok, []⟩ (State.finish { s.hunt p with
        wpu := { s.wpu with
          orderUp := false, pumps := ⟨stopped s.wpu.pumps.chip, stopped s.wpu.pumps.main⟩ } }))) ∧
    (s.Accepts .ackPump p pl →
      exec (.ackPump p pl) s = .next (State.respond p 0x43#8 ⟨.ok, []⟩ (State.finish (State.startPumps { s.hunt p with
        wpu := { s.wpu with pumps := ⟨{ s.wpu.pumps.chip with fault := false },
          { s.wpu.pumps.main with fault := false }⟩ } }))))

/-! ## The Level Unit -/

/-- The probe cycle: where the eight conditions hold at an evaluation, a multiple of 100 ms or an advance (`startDue`; that
the row MEASUREMENT_START is the evaluation is the model's choice, log 13), a measurement starts with its first down step, or
takes the fault CONTACT_AT_START where contact is present; otherwise the row changes nothing. Every 2 ms a step is given and
the input read: contact stops the probe; 600 down steps without contact are a fault; contact lost before 20 ms resumes the
descent 2 ms later; contact kept for 20 ms is a result N_nom less the step count, and the ascent begins with the reading of
PRB_HOME; an ascent ends at home, and after 700 steps the probe is HALTED. The reading of a descent's or an ascent's first
step comes with the next row, a row before 2 ms otherwise changes nothing, and contact or home at the time of a 601st or
701st step counts (DESIGN CHOICE, log 11). The row sets the level of PRB_HOME (log 48). -/
def Obligations.ProbeCycle : Prop :=
  ∀ s : State,
    let at' := fun home : Bool => { s with pins := { s.pins with probeHome := home } }
    let starts := (s.timeMs.toNat % 100 = 0 ∨ s.lvu.startDue = true) ∧ s.lvu.request ≠ none ∧ s.lvu.probe = .parked ∧
      (s.psc.state = .ready ∨ s.psc.state = .run ∨ s.psc.state = .drain ∨ ∃ sub prior, s.psc.state = .hold sub prior) ∧
      s.wpu.molten = true ∧ (∀ p, (s.wpu.pumps.get p).stage = .running ∨ (s.wpu.pumps.get p).stage = .off) ∧
      s.ctr.occupancy = 0 ∧ (∀ r ∈ s.ctr.table,
        ¬((s.ctr.map.pc : Int) - s.ctr.map.g - s.params.approach ≤ (s.ctr.hwm - r.entryPos).toInt ∧
          (s.ctr.hwm - r.entryPos).toInt ≤ (s.ctr.map.pc : Int) - s.ctr.map.g)) ∧
      s.lvu.feeder = .idle ∧ s.lvu.probeFault = false
    let park := fun x : State => State.finish (if x.lvu.afterResult then
        State.feedDecision { x with lvu := { x.lvu with
          probe := .parked, contactTimer := 0, afterResult := false, unread := false } }
      else { x with lvu := { x.lvu with probe := .parked, contactTimer := 0, afterResult := false, unread := false } })
    (∀ home,
      (¬starts → ∀ contact, exec (.measurementStart contact home) s = .next (at' home)) ∧
      (starts → exec (.measurementStart false home) s = .next { at' home with lvu := { s.lvu with
          probe := .descending, steps := 1, pace := 0, contactTimer := 0, dirUp := false, unread := true } } ∧
        exec (.measurementStart true home) s = .next (State.finish ((at' home).probeFaults .contactAtStart)) ∧
        ∃ t, exec (.measurementStart true home) s = .next t ∧ t.lvu.probeFault = true ∧ t.lvu.probe = .parked ∧
          t.lvu.request = none ∧ t.lvu.gap = false ∧ t.lvu.low = false ∧ t.lvu.interval = none ∧ t.settings = s.settings)) ∧
    (s.lvu.probe = .descending → ∀ home,
      (20 ≤ s.lvu.pace → s.lvu.steps < 600 →
        exec (.probeDownStep true home) s = .next { at' home with lvu := { s.lvu with
          steps := s.lvu.steps + 1, pace := 0, unread := false, probe := .contact, contactTimer := 0 } } ∧
        exec (.probeDownStep false home) s = .next { at' home with lvu := { s.lvu with
          steps := s.lvu.steps + 1, pace := 0, unread := false } }) ∧
      (20 ≤ s.lvu.pace → 600 ≤ s.lvu.steps →
        exec (.probeDownStep true home) s = .next { at' home with lvu := { s.lvu with
          unread := false, probe := .contact, contactTimer := 0 } } ∧
        ∃ t, exec (.probeDownStep false home) s = .next t ∧ t.lvu.probeFault = true ∧
          t.lvu.probe = (if home then .parked else .ascending) ∧ t.lvu.steps = (if home then 0 else 1) ∧
          t.lvu.last = s.lvu.last ∧ t.settings = s.settings) ∧
      (s.lvu.pace < 20 → s.lvu.unread = true →
        exec (.probeDownStep true home) s = .next { at' home with lvu := { s.lvu with
          unread := false, probe := .contact, contactTimer := 0 } } ∧
        exec (.probeDownStep false home) s = .next { at' home with lvu := { s.lvu with unread := false } }) ∧
      (s.lvu.pace < 20 → s.lvu.unread = false → ∀ contact,
        exec (.probeDownStep contact home) s = .next (at' home))) ∧
    (s.lvu.probe = .contact →
      (s.lvu.contactTimer < 200 → exec .probeContactLost s = .next { s with lvu := { s.lvu with
        probe := .descending, contactTimer := 0, pace := 0, unread := false } }) ∧
      (200 ≤ s.lvu.contactTimer → ∃ t, exec .levelResult s = .next t ∧
        t.lvu.last = some ((s.params.nNom : Int) - s.lvu.steps, s.timeMs) ∧ t.lvu.target = s.params.levelT ∧
        t.lvu.request = none ∧ t.lvu.gap = false ∧
        (s.pins.probeHome = false → t.lvu.probe = .ascending ∧ t.lvu.steps = 1 ∧ t.lvu.afterResult = true) ∧
        (s.pins.probeHome = true → t.lvu.probe = .parked) ∧
        let level := (s.params.nNom : Int) - s.lvu.steps
        t.lvu.high = (s.lvu.high || decide (s.params.levelH ≤ level)) ∧
        t.lvu.critical = (s.lvu.critical || (decide (level < s.params.levelH) && decide (level < s.params.levelC))) ∧
        (t.lvu.low = true ↔ (s.lvu.low = true ∧ ¬(level < s.params.levelH ∧ level < s.params.levelC ∧
            s.lvu.critical = false)) ∨
          (level < s.params.levelH ∧ s.params.levelC ≤ level ∧ level < s.params.levelW ∧ s.lvu.critical = false ∧
            s.lvu.probeFault = false)) ∧ t.settings = s.settings)) ∧
    (s.lvu.probe = .ascending →
      (20 ≤ s.lvu.pace → s.lvu.steps < 700 →
        let stepped := { s.lvu with steps := s.lvu.steps + 1, pace := 0, unread := false }
        exec (.probeUpStep false) s = .next { at' false with lvu := stepped } ∧
        exec (.probeUpStep true) s = .next (park { at' true with lvu := stepped })) ∧
      (20 ≤ s.lvu.pace → 700 ≤ s.lvu.steps → exec (.probeUpStep true) s = .next (park (at' true)) ∧
        ∃ t, exec (.probeUpStep false) s = .next t ∧ t.lvu.probe = .halted ∧ t.lvu.probeFault = true ∧
          t.lvu.steps = s.lvu.steps ∧ t.settings = s.settings) ∧
      (s.lvu.pace < 20 → s.lvu.unread = true →
        exec (.probeUpStep false) s = .next { at' false with lvu := { s.lvu with unread := false } } ∧
        exec (.probeUpStep true) s = .next (park (at' true))) ∧
      (s.lvu.pace < 20 → s.lvu.unread = false → ∀ home, exec (.probeUpStep home) s = .next (at' home)))

/-- The feed decision takes the first case that applies, T being the threshold with which the level was taken: in STANDBY or TRIP,
with L at or above T, or with LEVEL_HIGH or WIRE_OUT latched, no feed; with the budget 0, incident FEED_BUDGET with the unclamped
feed, its latch if it is clear, and no feed; with F = (T − L) × gain / 16 truncated to 0, no feed; otherwise F is clamped to
max_feed and to the budget, which it lowers, and F × 10 steps are given, the first at once. -/
def Obligations.FeedDecisionTakesFirstCase : Prop :=
  ∀ (s : State) (l : Int) (w : Word), s.lvu.last = some (l, w) →
    let f := ((s.lvu.target - l) * s.params.feedGain).tdiv 16
    let idle := { s with lvu := { s.lvu with interval := some 0 } }
    let barred := s.psc.state = .standby ∨ s.psc.state.isTrip = true ∨ s.lvu.target ≤ l ∨ s.lvu.high = true ∨
      s.lvu.wireOut = true
    (barred → s.feedDecision = idle) ∧
    (¬barred → s.lvu.budget = 0 →
      s.feedDecision.lvu = { s.lvu with interval := some 0, feedBudget := true } ∧ s.feedDecision.ctr = s.ctr ∧
        s.feedDecision.psc = s.psc ∧ s.feedDecision.inl.counter = s.inl.counter + 1 ∧
        s.feedDecision.inl.incidents.getLast? =
          some ⟨s.inl.counter + 1, s.timeMs, .feedBudget, none, none, valueOf f⟩ ∧
        ∀ p, (s.feedDecision.scp.ports.get p).events =
          (s.scp.ports.get p).events ||| (if s.lvu.feedBudget then 0x20#6 else 0x30#6)) ∧
    (¬barred → 0 < s.lvu.budget → f = 0 → s.feedDecision = idle) ∧
    (¬barred → 0 < s.lvu.budget → f ≠ 0 →
      let given := min (min f.toNat s.params.maxFeed) s.lvu.budget
      s.feedDecision = { s with lvu := { s.lvu with
        budget := s.lvu.budget - given, feeder := .feeding (given * 10 - 1) 1, feedPace := 0 } })

/-- The schedule and the feed run: an interval that runs out makes a request, which waits with its due time, unless PROBE_FAULT is
latched; a request older than the deferral limit asserts LEVEL_GAP; feed steps come 5 ms apart and the feed ends 5 ms after the
last, with the melt settle from 0; the settle's end makes a request; each 60,000 ms refills the budget up to its maximum;
WIRE_OUT latches and stops a feed; ACK_LEVEL clears the six flags, and where PROBE_FAULT was latched makes a request at once and
begins a new ascent from HALTED. A request made while one is pending takes its place with the new due time (DEDUCED, log 35); the
level of WIRE_END, which must have held active for 50 ms, comes from outside without a row (DESIGN CHOICE, log 12), and the settle
timer is 0 once the melt settle has
ended (DESIGN CHOICE, log 52). -/
def Obligations.LevelScheduleAndFeed : Prop :=
  ∀ s : State,
    let due := if s.lvu.probeFault then s.lvu.request else some s.timeMs
    (∀ n, s.lvu.interval = some n → s.params.levelInterval * 1000 ≤ n →
      exec .levelIntervalExpiry s = .next { s with lvu := { s.lvu with interval := none, request := due } }) ∧
    (∀ x, s.timeMs.toNat % 100 = 0 → s.lvu.request = some x → s.lvu.gap = false →
      s.params.deferral * 1000 ≤ (s.timeMs - x).toNat → exec .levelGap s = .next (State.finish (State.addIncident .levelGap
        none none (valueOf ((s.timeMs - x).toNat : Int)) { s with lvu := { s.lvu with gap := true } }))) ∧
    (∀ n g, s.lvu.feeder = .feeding (n + 1) g → 50 ≤ s.lvu.feedPace →
      exec .feedStep s = .next { s with lvu := { s.lvu with feeder := .feeding n (g + 1), feedPace := 0 } }) ∧
    (∀ g, s.lvu.feeder = .feeding 0 g → 50 ≤ s.lvu.feedPace →
      exec .feedEnd s = .next { s with lvu := { s.lvu with feeder := .settling, settleTimer := 0 } }) ∧
    (s.lvu.feeder = .settling → s.params.meltSettle * 1000 ≤ s.lvu.settleTimer →
      exec .meltSettleEnd s = .next { s with lvu := { s.lvu with feeder := .idle, settleTimer := 0, request := due } }) ∧
    (s.timeMs.toNat % 60000 = 0 → exec .budgetRefill s = .next { s with lvu := { s.lvu with
      budget := min (s.lvu.budget + s.params.refill) s.params.budgetMax } }) ∧
    (s.pins.wireEnd = false ∨ s.lvu.wireOut = true ∨ s.lvu.wireTimer < 500 → exec .wireOut s = .next s) ∧
    (s.pins.wireEnd = true → s.lvu.wireOut = false → 500 ≤ s.lvu.wireTimer → ∃ t, exec .wireOut s = .next t ∧
      t.pins = s.pins ∧ t.lvu = { s.lvu with
        wireOut := true
        feeder := match s.lvu.feeder with | .feeding _ _ => .settling | u => u
        settleTimer := match s.lvu.feeder with | .feeding _ _ => 0 | _ => s.lvu.settleTimer } ∧
      t.ctr = s.ctr ∧ t.adu = s.adu ∧ t.rps = s.rps ∧ t.fdu = s.fdu ∧ t.hcu = s.hcu ∧ t.wpu = s.wpu ∧ t.exm = s.exm ∧
      t.psc = s.psc ∧ t.oq = s.oq ∧ t.params = s.params ∧ t.inl.counter = s.inl.counter + 1 ∧
      t.inl.incidents.getLast? = some ⟨s.inl.counter + 1, s.timeMs, .wireOut, none, none,
        match s.lvu.feeder with | .feeding _ g => valueOf ((g / 10 : Nat) : Int) | _ => none⟩) ∧
    ∀ p pl, s.Accepts .ackLevel p pl →
      let cleared := { s.hunt p with lvu := { s.lvu with
        high := false, low := false, critical := false, probeFault := false, feedBudget := false, wireOut := false
        wireTimer := if s.lvu.wireOut then 0 else s.lvu.wireTimer } }
      (s.lvu.probeFault = false →
        exec (.ackLevel p pl) s = .next (State.respond p 0x44#8 ⟨.ok, []⟩ cleared.finish)) ∧
      (s.lvu.probeFault = true → s.lvu.probe ≠ .halted →
        exec (.ackLevel p pl) s = .next (State.respond p 0x44#8 ⟨.ok, []⟩ (State.finish
          { cleared with lvu := { cleared.lvu with request := some s.timeMs } }))) ∧
      (s.lvu.probeFault = true → s.lvu.probe = .halted →
        exec (.ackLevel p pl) s = .next (State.respond p 0x44#8 ⟨.ok, []⟩ (State.finish { cleared with lvu :=
          if s.pins.probeHome then { cleared.lvu with
            request := some s.timeMs, probe := .parked, steps := 0, contactTimer := 0, afterResult := false, unread := false }
          else { cleared.lvu with
            request := some s.timeMs, probe := .ascending, steps := 1, pace := 0, contactTimer := 0, afterResult := false
            dirUp := true, unread := true } })))

/-! ## The Extraction Monitor -/

/-- Each 100 ms a hood's sample, valid from 3.5 to 21.0 mA and 0 Pa where invalid, updates its counts, lowers the hold-off,
and where the hood is enabled under supervision with the hold-off then at 0 latches the first of FAN_STOP, FLOW_LOSS and
FLOW_WARN that its counts call for; FAN_STOP clears the flags below it and FLOW_LOSS clears FLOW_WARN. A supervised invalid
sample after a valid or an unsupervised one adds SENSOR_FAULT. Loss-active follows the counts at each supervised sample, and
under DRAIN_THEN_TRIP a hood that is loss-active or lost runs its escalation timer to the grace, at which
EXTRACTION_ESCALATED latches and trips the part. The hold-off is lowered at a disabled hood's samples too (DEDUCED, log 34).
-/
def Obligations.HoodSampleCountsAndLatches : Prop :=
  ∀ (h : Hood) (current : Nat) (fan : Bool) (s : State), s.timeMs.toNat % 100 = 0 →
    let hp := s.params.hoods.get h
    let u := s.exm.hoods.get h
    let v : Sample Nat := if 3500 ≤ current ∧ current ≤ 21000
      then .valid (clampInt 0 1500 ((((current : Int) - 4000) * 1500).tdiv 16000)).toNat else .invalid
    let pa := match v with | .valid x => x | _ => 0
    let watched := hp.enabled && s.psc.state.heatEn
    let count := fun (b : Bool) (n : Nat) => if b then min (n + 1) 1200 else 0
    let warn := count (watched && decide (pa < hp.pw)) u.warn
    let loss := count (watched && decide (pa < hp.pa)) u.loss
    let off := count (watched && !fan) u.fanOff
    let good := if hp.enabled then count (decide (hp.pw ≤ pa) && fan) u.good else u.good
    let free := watched && decide (u.holdOff - 1 = 0)
    let stops := free && !u.fanStop && decide (20 ≤ off)
    let loses := free && !stops && !u.fanStop && !u.flowLoss && decide (hp.qualify * 10 ≤ loss)
    let warns := free && !stops && !loses && !u.fanStop && !u.flowLoss && !u.flowWarn && decide (hp.qualify * 10 ≤ warn)
    let active := if watched then (if u.lossActive then !decide (hp.qualify * 10 ≤ good)
      else decide (hp.qualify * 10 ≤ loss) || decide (20 ≤ off)) else u.lossActive
    let timer := if watched && hp.policy == .drainThenTrip && (active || u.fanStop || u.flowLoss || stops || loses)
      then min (u.timer + 100) (hp.grace * 1000) else 0
    let escalates := free && hp.policy == .drainThenTrip && !u.escalated && decide (hp.grace * 1000 ≤ timer)
    ∃ t, exec (.hoodSample h current fan) s = .next t ∧ (t.exm.hoods.get h).pressure = v ∧
      (t.exm.hoods.get h).fan = fan ∧ (t.exm.hoods.get h).good = good ∧ (t.exm.hoods.get h).holdOff = u.holdOff - 1 ∧
      (t.exm.hoods.get h).fanStop = (u.fanStop || stops) ∧
      (t.exm.hoods.get h).flowLoss = ((u.flowLoss && !stops) || loses) ∧
      (t.exm.hoods.get h).flowWarn = ((u.flowWarn && !stops && !loses) || warns) ∧
      (t.exm.hoods.get h).proven = (!hp.enabled || decide (s.params.proveTime * 10 ≤ good)) ∧
      (s.heatEn = t.heatEn → (t.exm.hoods.get h).warn = warn ∧ (t.exm.hoods.get h).loss = loss ∧
        (t.exm.hoods.get h).fanOff = off ∧ (t.exm.hoods.get h).lossActive = active ∧ (t.exm.hoods.get h).timer = timer) ∧
      (t.exm.hoods.get h).escalated = (u.escalated || escalates) ∧
      (escalates = true → t.psc.state = .trip (.escalated h) ∧ ∃ i ∈ t.inl.incidents, i.code = .extractionEscalated ∧
        i.subject = some (.hood h) ∧ i.value = valueOf ((timer : Nat) : Int)) ∧
      (watched = true → v = .invalid → (∃ x, u.pressure = .valid x) ∨ u.supervised = false →
        ∃ i ∈ t.inl.incidents, i.code = .sensorFault ∧ i.subject = some (.hood h) ∧ i.time = s.timeMs) ∧
      (stops || loses → ∀ r ∈ t.ctr.table, r.flags.extractionEvent = true) ∧
      (∀ h', h' ≠ h → (t.exm.hoods.get h').fixed = (s.exm.hoods.get h').fixed) ∧ t.settings = s.settings ∧
      t.adu.queue = s.adu.queue ∧ t.oq = s.oq

/-- The flags and status of a hood: FAN_STOP, FLOW_LOSS and FLOW_WARN latch where they are due with their ladder;
EXTRACTION_ESCALATED latches at the grace and trips the part; a recovered hood is no longer loss-active and a hood good for
the prove time is proven, with nothing else changed; the qualify time, prove time and grace are those in force since the
hood's latest sample. ACK_HOOD clears the four flags, sets the hold-off to the qualify time in samples, as it stands at the
command (DESIGN CHOICE, log 54), and leaves the counts. That a latch has a row of its own beside the sample is the model's
choice (log 8). -/
def Obligations.HoodFlagsAndAcknowledgement : Prop :=
  ∀ (h : Hood) (s : State),
    let u := s.exm.hoods.get h
    let hp := s.params.hoods.get h
    let ready := hp.enabled = true ∧ s.heatEn = true ∧ u.holdOff = 0
    (ready → u.fanStop = false → 20 ≤ u.fanOff → ∃ t, exec (.fanStop h) s = .next t ∧
      (t.exm.hoods.get h).fanStop = true ∧ (t.exm.hoods.get h).flowLoss = false ∧ (t.exm.hoods.get h).flowWarn = false ∧
      (∀ r ∈ t.ctr.table, r.flags.extractionEvent = true) ∧ t.settings = s.settings ∧ t.oq = s.oq) ∧
    (ready → u.fanStop = false → u.flowLoss = false → u.qualify * 10 ≤ u.loss → ∃ t, exec (.flowLoss h) s = .next t ∧
      (t.exm.hoods.get h).flowLoss = true ∧ (t.exm.hoods.get h).flowWarn = false ∧
      (∀ r ∈ t.ctr.table, r.flags.extractionEvent = true) ∧ t.settings = s.settings ∧ t.oq = s.oq) ∧
    (ready → u.fanStop = false → u.flowLoss = false → u.flowWarn = false → u.qualify * 10 ≤ u.warn →
      ∃ t, exec (.flowWarn h) s = .next t ∧ t.exm = { hoods := s.exm.hoods.set h { u with flowWarn := true } } ∧
        t.ctr = s.ctr ∧ t.adu = s.adu ∧ t.rps = s.rps ∧ t.fdu = s.fdu ∧ t.hcu = s.hcu ∧ t.wpu = s.wpu ∧ t.lvu = s.lvu ∧
        t.psc = s.psc ∧ t.oq = s.oq ∧ t.params = s.params ∧ t.inl.counter = s.inl.counter + 1) ∧
    (ready → hp.policy = .drainThenTrip → u.escalated = false → u.grace * 1000 ≤ u.timer →
      ∃ t, exec (.extractionEscalated h) s = .next t ∧ (t.exm.hoods.get h).escalated = true ∧
        t.psc.state = .trip (.escalated h) ∧ (∀ r ∈ t.ctr.table, r.flags.tripped = true) ∧ t.settings = s.settings ∧
        t.oq = s.oq) ∧
    (hp.enabled = true → s.heatEn = true → u.lossActive = true → u.qualify * 10 ≤ u.good → exec (.hoodRecovery h) s =
      .next { s with exm := { hoods := s.exm.hoods.set h { u with lossActive := false } } }) ∧
    (u.proven = false → (hp.enabled = false ∨ u.proveTime * 10 ≤ u.good) → exec (.hoodProven h) s =
      .next { s with exm := { hoods := s.exm.hoods.set h { u with proven := true } } }) ∧
    ∀ p pl, s.Accepts .ackHood p pl →
      (2 < byteAt pl 0 → exec (.ackHood p pl) s = .next ((s.hunt p).respond p 0x45#8 ⟨.range, []⟩)) ∧
      (byteAt pl 0 = (match h with | .flux => 0 | .preheat => 1 | .wave => 2) → exec (.ackHood p pl) s =
        .next (State.respond p 0x45#8 ⟨.ok, []⟩ (State.finish { s.hunt p with exm := { hoods := s.exm.hoods.set h { u with
          flowWarn := false, flowLoss := false, fanStop := false, escalated := false, holdOff := hp.qualify * 10
          timer := if u.lossActive then u.timer else 0 } } })))

/-! ## The Process State Controller -/

/-- Entry to TRIP, by the TRIP command and by ESTOP_N: every heater is at zero, every valve closed, every pump OFF with its
reference 0 and the wave order DOWN, every record TRIPPED, the settle UNSETTLED, ADMIT released with no grace, no probe descends
and no feed runs, while the records, the tickets, the outcomes and the settings stay. In TRIP a further cause changes neither the
state nor the cause. -/
def Obligations.TripEntryStopsTheMachine : Prop :=
  ∀ s : State,
    let safe := fun (c : TripCause) (t : State) =>
      t.psc.state = .trip c ∧ (∀ k, (t.hcu.ch.get k).AtZero) ∧ (∀ l : Fin 8, (t.fdu.lanes[l]).valveOpen = false) ∧
      (∀ p, (t.wpu.pumps.get p).stage = .off ∧ (t.wpu.pumps.get p).reference = 0) ∧ t.wpu.orderUp = false ∧
      (∀ r ∈ t.ctr.table, r.flags.tripped = true) ∧ t.ctr.table.map BoardRecord.entryPos = s.ctr.table.map BoardRecord.entryPos ∧
      t.rps.settle = .unsettled ∧ t.adu.admitOn = false ∧ t.adu.grace = none ∧ t.lvu.measuring = false ∧
      (∀ n g, t.lvu.feeder ≠ .feeding n g) ∧ t.fdu.qualify = 0 ∧ t.adu.queue = s.adu.queue ∧ t.oq = s.oq ∧ t.settings = s.settings
    let pins := fun b : Bool => { s.pins with estopActive := b }
    (s.psc.state.isTrip = false →
      (∀ p pl, s.Accepts .trip p pl → ∃ t, exec (.trip p pl) s = .next t ∧ safe .command t ∧
        (t.scp.ports.get p).answering = some (responseFrame 0x36#8 ⟨.ok, []⟩)) ∧
      (s.psc.estop = false → ∃ t, exec (.estopChange true) s = .next t ∧ safe .estop t ∧ t.psc.estop = true)) ∧
    (s.psc.state.isTrip = true →
      (∀ p pl, s.Accepts .trip p pl →
        exec (.trip p pl) s = .next (State.respond p 0x36#8 ⟨.ok, []⟩ (s.hunt p).finish)) ∧
      (s.psc.estop = false → exec (.estopChange true) s = .next (State.finish
          { s with pins := pins true, psc := { s.psc with estop := true } }) ∧
        ∃ t, exec (.estopChange true) s = .next t ∧ t.psc = { s.psc with estop := true })) ∧
    (s.psc.estop = true →
      exec (.estopChange false) s = .next (State.finish
        { s with pins := pins false, psc := { s.psc with estop := false } }))

/-- WARM checks NO_PROFILE, EXTRACTION and NOT_READY in that order and otherwise enters WARMING with the settle from 0; COOL
enters STANDBY, where the heaters are at zero, the wave order is DOWN and the settle UNSETTLED; CLEAR is refused with
NOT_READY while ESTOP_N is active, mains sync absent or a channel above 4000, and otherwise enters STANDBY with the table,
tickets and outcomes kept. A channel whose latest sample is invalid latches no OVERTEMP at these changes of HEAT_EN (DEDUCED,
log 31). -/
def Obligations.WarmCoolAndClear : Prop :=
  ∀ (p : Port) (pl : List Byte) (s : State),
    let stands := fun t : State => t.psc.state = .standby ∧ (∀ k, (t.hcu.ch.get k).AtZero) ∧ t.wpu.orderUp = false ∧
      t.rps.settle = .unsettled ∧ t.rps.active = s.rps.active ∧ t.fdu.qualify = 0 ∧
      t.ctr.table.map BoardRecord.entryPos = s.ctr.table.map BoardRecord.entryPos ∧ t.adu.queue = s.adu.queue ∧
      t.oq = s.oq ∧ t.settings = s.settings
    let cold := ∀ k x, (s.hcu.ch.get k).sample = .valid x → x ≤ 4000
    (s.Accepts .warm p pl →
      (s.rps.active = none → exec (.warm p pl) s = .next ((s.hunt p).respond p 0x30#8 ⟨.noProfile, []⟩)) ∧
      (s.rps.active ≠ none → (s.extractionProven = false ∨ s.extractionLost = true) →
        exec (.warm p pl) s = .next ((s.hunt p).respond p 0x30#8 ⟨.extraction, []⟩)) ∧
      (s.rps.active ≠ none → s.extractionProven = true → s.extractionLost = false →
        (s.heaterFault = true ∨ 25 ≤ (s.timeMs - s.hcu.lastHalf).toNat ∨ s.conditions.trip = true →
          exec (.warm p pl) s = .next ((s.hunt p).respond p 0x30#8 ⟨.notReady, []⟩)) ∧
        (s.heaterFault = false → (s.timeMs - s.hcu.lastHalf).toNat < 25 → s.conditions.trip = false →
          exec (.warm p pl) s = .next (State.respond p 0x30#8 ⟨.ok, []⟩ (s.hunt p).enterWarming.finish) ∧
          ((∀ q k x, s.activeProfile = some q → (s.hcu.ch.get k).sample = .valid x →
              x ≤ min ((q.setpoint k : Int) + (s.hcu.ch.get k).margin) 4000) →
            (s.activeProfile = none → cold) →
            ∃ t, exec (.warm p pl) s = .next t ∧ t.psc.state = .warming ∧ t.heatEn = true ∧ t.rps.settle = .settling ∧
              t.rps.settleTimer = 0 ∧ t.adu.queue = s.adu.queue ∧ t.oq = s.oq ∧ t.settings = s.settings)))) ∧
    (s.Accepts .cool p pl →
      (s.psc.state = .standby → exec (.cool p pl) s = .next ((s.hunt p).respond p 0x31#8 ⟨.ok, []⟩)) ∧
      (s.psc.state ≠ .standby → cold → ∃ t, exec (.cool p pl) s = .next t ∧ stands t ∧
        (t.scp.ports.get p).answering = some (responseFrame 0x31#8 ⟨.ok, []⟩))) ∧
    (s.Accepts .clear p pl →
      ((s.psc.estop = true ∨ 25 ≤ (s.timeMs - s.hcu.lastHalf).toNat ∨ ∃ k x, (s.hcu.ch.get k).sample = .valid x ∧ 4000 < x) →
        exec (.clear p pl) s = .next ((s.hunt p).respond p 0x37#8 ⟨.notReady, []⟩)) ∧
      (s.psc.estop = false → (s.timeMs - s.hcu.lastHalf).toNat < 25 → cold → ∃ t, exec (.clear p pl) s = .next t ∧
        stands t ∧ (t.scp.ports.get p).answering = some (responseFrame 0x37#8 ⟨.ok, []⟩)))

/-- START enters RUN from READY where all six items of its gate hold, refused with NOT_READY otherwise, and changes nothing
in RUN; STOP moves RUN to DRAIN, or to READY with the table empty, and sets the prior state of HOLD to DRAIN; HOLD moves RUN
and DRAIN to HOLDING and RESUMING back to HOLDING; RESUME moves HOLDING to RESUMING, refused with NOT_READY under PUMP_FAULT
or TRACK_ALERT. -/
def Obligations.StartStopHoldAndResume : Prop :=
  ∀ (p : Port) (pl : List Byte) (s : State),
    (s.Accepts .start p pl →
      let gate := s.ctr.mapValid = true ∧ s.rps.settle = .settled ∧ s.waveReady = true ∧ s.conditions.drain = false ∧
        s.extractionLost = false ∧ (∀ k, (s.wpu.pumps.get k).fault = false)
      (s.psc.state = .run → exec (.start p pl) s = .next ((s.hunt p).respond p 0x32#8 ⟨.ok, []⟩)) ∧
      (s.psc.state = .ready → ¬gate → exec (.start p pl) s = .next ((s.hunt p).respond p 0x32#8 ⟨.notReady, []⟩)) ∧
      (s.psc.state = .ready → gate →
        exec (.start p pl) s = .next (State.respond p 0x32#8 ⟨.ok, []⟩ ((s.hunt p).goTo .run).finish) ∧
        (s.ctr.table ≠ [] ∨ s.nextProfile = none ∨ s.nextProfile = s.rps.active → ∃ t, exec (.start p pl) s = .next t ∧
          t.psc.state = .run ∧ t.rps.active = s.rps.active ∧ t.adu.queue = s.adu.queue ∧ t.oq = s.oq ∧
          t.settings = s.settings))) ∧
    (s.Accepts .stop p pl →
      (s.psc.state = .run → s.ctr.table ≠ [] → exec (.stop p pl) s =
        .next (State.respond p 0x33#8 ⟨.ok, []⟩ ((s.hunt p).goTo .drain).finish) ∧
        ∃ t, exec (.stop p pl) s = .next t ∧ t.psc.state = .drain ∧ t.settings = s.settings ∧ t.oq = s.oq) ∧
      (s.psc.state = .run → s.ctr.table = [] → exec (.stop p pl) s =
        .next (State.respond p 0x33#8 ⟨.ok, []⟩ ((s.hunt p).goTo .ready).finish)) ∧
      (s.psc.state = .drain → exec (.stop p pl) s = .next (State.respond p 0x33#8 ⟨.ok, []⟩ (s.hunt p).finish)) ∧
      (∀ sub prior, s.psc.state = .hold sub prior → exec (.stop p pl) s = .next (State.respond p 0x33#8 ⟨.ok, []⟩
        (State.finish { s.hunt p with psc := { s.psc with state := .hold sub .drain } })))) ∧
    (s.Accepts .hold p pl →
      (s.psc.state = .run → ∃ t, exec (.hold p pl) s = .next t ∧ t.psc.state = .hold .holding .run ∧ t.settings = s.settings ∧
        t.adu.queue = s.adu.queue ∧ t.oq = s.oq ∧ (∀ k, (t.wpu.pumps.get k).stage ≠ .running) ∧
        (∀ r ∈ t.ctr.table, s.inWave r = true → r.wave = .interrupted ∧ r.flags.waveInterrupted = true)) ∧
      (s.psc.state = .drain → ∃ t, exec (.hold p pl) s = .next t ∧ t.psc.state = .hold .holding .drain ∧
        t.settings = s.settings ∧ t.adu.queue = s.adu.queue ∧ t.oq = s.oq) ∧
      (∀ prior, s.psc.state = .hold .resuming prior → ∃ t, exec (.hold p pl) s = .next t ∧
        t.psc.state = .hold .holding prior ∧ t.settings = s.settings ∧ t.adu.queue = s.adu.queue ∧ t.oq = s.oq) ∧
      (∀ prior, s.psc.state = .hold .holding prior →
        exec (.hold p pl) s = .next (State.respond p 0x34#8 ⟨.ok, []⟩ (s.hunt p).finish))) ∧
    (s.Accepts .resume p pl →
      (∀ prior, s.psc.state = .hold .resuming prior →
        exec (.resume p pl) s = .next ((s.hunt p).respond p 0x35#8 ⟨.ok, []⟩)) ∧
      (∀ prior, s.psc.state = .hold .holding prior →
        ((∃ k, (s.wpu.pumps.get k).fault = true) ∨ s.ctr.trackAlert = true →
          exec (.resume p pl) s = .next ((s.hunt p).respond p 0x35#8 ⟨.notReady, []⟩)) ∧
        ((∀ k, (s.wpu.pumps.get k).fault = false) → s.ctr.trackAlert = false → exec (.resume p pl) s =
          .next (State.respond p 0x35#8 ⟨.ok, []⟩
            (State.finish (State.resumeWave ((s.hunt p).setState (.hold .resuming prior))))))))

/-! ## Outcomes, incidents, events, parameters and alarm lines -/

/-- POP_OUTCOME removes the oldest outcome and answers its number, refused with EMPTY without one and with RANGE for another
number; CLEAR_INCIDENTS removes every incident, answers how many, and keeps the counter; SET_EVENT_MASK replaces the port's
mask, refused with RANGE above bit 5; GET_EVENTS answers the port's event set and empties it. ATTN is asserted exactly while
a port's set and mask have a kind in common. -/
def Obligations.RecordAndEventCommands : Prop :=
  (∀ u : PortState, u.attn = true ↔ ∃ b : Fin 6, u.events.getLsbD b = true ∧ u.mask.getLsbD b = true) ∧
  ∀ (p : Port) (pl : List Byte) (s : State),
    (s.Accepts .popOutcome p pl →
      (s.oq.outcomes = [] → exec (.popOutcome p pl) s = .next ((s.hunt p).respond p 0x50#8 ⟨.empty, []⟩)) ∧
      ∀ o rest, s.oq.outcomes = o :: rest →
        (pl.length = 4 → BitVec.ofNat 32 (longAt pl 0) ≠ o.number →
          exec (.popOutcome p pl) s = .next ((s.hunt p).respond p 0x50#8 ⟨.range, []⟩)) ∧
        (pl = [] ∨ (pl.length = 4 ∧ BitVec.ofNat 32 (longAt pl 0) = o.number) →
          exec (.popOutcome p pl) s = .next (State.respond p 0x50#8 ⟨.ok, putWord o.number⟩
            (State.finish { s.hunt p with oq := { s.oq with outcomes := rest } })))) ∧
    (s.Accepts .clearIncidents p pl → exec (.clearIncidents p pl) s = .next (State.respond p 0x51#8
      ⟨.ok, put1 s.inl.incidents.length⟩ { s.hunt p with inl := { s.inl with incidents := [] } })) ∧
    (s.Accepts .setEventMask p pl →
      (63 < byteAt pl 0 → exec (.setEventMask p pl) s = .next ((s.hunt p).respond p 0x53#8 ⟨.range, []⟩)) ∧
      (byteAt pl 0 ≤ 63 → exec (.setEventMask p pl) s = .next (State.respond p 0x53#8 ⟨.ok, []⟩
        ((s.hunt p).modPort p fun u => { u with mask := BitVec.ofNat 6 (byteAt pl 0) })))) ∧
    (s.Accepts .getEvents p pl → exec (.getEvents p pl) s = .next (State.respond p 0x54#8
      ⟨.ok, put1 (s.scp.ports.get p).events.toNat⟩ ((s.hunt p).modPort p fun u => { u with events := 0#6 })))

/-- SET_PARAM refuses with RANGE a parameter outside Table 11.5 and a coded value outside its codes, and otherwise, unless
the owner's rule refuses it, stores the value clamped to the range, answers it, CLAMPED where it was clamped, and leaves
every other parameter. The owners refuse p_min above p_max, thresholds not in the order C < W < T < H and Pa at or above Pw
with RANGE, and a hood's enable outside STANDBY with STATE. A new reservoir threshold is compared at once; a budget maximum
cuts the budget; a hood made DISABLED is cleared and proven, one made ENABLED starts unproven from 0; a policy acts on a lost
hood at once and restarts the escalation timer; a line made not silenceable becomes AUDIBLE. ACK_TRACK clears TRACK_ALERT;
SILENCE makes each silenceable line SILENCED and leaves the others; at a blink boundary each line conducts exactly while it
is active, AUDIBLE and in its on phase. -/
def Obligations.ParametersAndAlarmLines : Prop :=
  (∀ (p : Port) (pl : List Byte) (s : State), s.Accepts .setParam p pl →
    (paramOf (byteAt pl 0) (byteAt pl 1) = none →
      exec (.setParam p pl) s = .next ((s.hunt p).respond p 0x52#8 ⟨.range, []⟩)) ∧
    ∀ k, paramOf (byteAt pl 0) (byteAt pl 1) = some k →
      let v := signedLongAt pl 2
      let kept := if v < k.range.1 then k.range.1 else if k.range.2 < v then k.range.2 else v
      let ordered :=
        let lv := fun (x : ParamId) (old : Int) => if k = x then kept else old
        lv .levelC s.params.levelC < lv .levelW s.params.levelW ∧ lv .levelW s.params.levelW < lv .levelT s.params.levelT ∧
          lv .levelT s.params.levelT < lv .levelH s.params.levelH
      let refusal : Option Status := match k with
        | .pMin => if (s.params.pMax : Int) < kept then some .range else none
        | .pMax => if kept < s.params.pMin then some .range else none
        | .levelH | .levelT | .levelW | .levelC => if ordered then none else some .range
        | .hoodEnable _ => if s.psc.state = .standby then none else some .state
        | .pw h => if kept ≤ (s.params.hoods.get h).pa then some .range else none
        | .pa h => if (s.params.hoods.get h).pw ≤ kept then some .range else none
        | _ => none
      (k.coded = true → kept ≠ v → exec (.setParam p pl) s = .next ((s.hunt p).respond p 0x52#8 ⟨.range, []⟩)) ∧
      ((k.coded = false ∨ kept = v) → ∀ st, refusal = some st →
        exec (.setParam p pl) s = .next ((s.hunt p).respond p 0x52#8 ⟨st, []⟩)) ∧
      ((k.coded = false ∨ kept = v) → refusal = none → ∃ t, exec (.setParam p pl) s = .next t ∧
        (t.scp.ports.get p).answering =
          some (responseFrame 0x52#8 ⟨if kept = v then .ok else .clamped, putS4 kept⟩) ∧
        k.get t.params = kept ∧ (∀ k', k' ≠ k → k'.get t.params = k'.get s.params) ∧ t.oq = s.oq ∧
        t.adu.queue = s.adu.queue ∧ t.rps.recipes = s.rps.recipes ∧ t.rps.profiles = s.rps.profiles ∧ t.timeMs = s.timeMs ∧
        t.fdu.reservoirLow = (s.fdu.reservoirLow || (k == .reservoirLow && kept != s.params.reservoirLow &&
          decide ((s.fdu.reservoir : Int) < kept * 1000))) ∧
        t.lvu.budget = (if k = .budgetMax then min s.lvu.budget kept.toNat else s.lvu.budget) ∧
        (∀ h, k = .hoodEnable h → ∀ u, u = s.exm.hoods.get h →
          (kept = k.get s.params → t.exm.hoods.get h = u) ∧
          (kept = 0 → (s.params.hoods.get h).enabled = true → t.exm.hoods.get h = { u with
            warn := 0, loss := 0, fanOff := 0, good := 0, holdOff := 0, flowWarn := false, flowLoss := false
            fanStop := false, escalated := false, lossActive := false, timer := 0, proven := true }) ∧
          (kept = 1 → (s.params.hoods.get h).enabled = false → t.exm.hoods.get h = { u with
            warn := 0, loss := 0, fanOff := 0, good := 0, proven := false })) ∧
        (∀ h, k = .policy h →
          let old := (s.params.hoods.get h).policy
          (kept ≠ (old.code : Int) → old = .drainThenTrip ∨ kept = 3 → (t.exm.hoods.get h).timer = 0) ∧
          (kept = 4 → s.hoodLost h = true → s.conditions.hoodTrip = false → s.psc.state.isTrip = false →
            t.psc.state = .trip (.hoodTrip h)) ∧
          (kept = 2 ∨ kept = 3 → s.hoodLost h = true → s.conditions.hoodDrain = false → s.psc.state = .run →
            s.ctr.table ≠ [] → t.psc.state = .drain)) ∧
        ∀ l, k = .silenceable l → kept = 0 → (t.aou.lines.get l).silenced = false)) ∧
  ∀ (p : Port) (pl : List Byte) (s : State),
    (s.Accepts .ackTrack p pl → exec (.ackTrack p pl) s = .next (State.respond p 0x40#8 ⟨.ok, []⟩
      (State.followAlarms { s.hunt p with ctr := { s.ctr with trackAlert := false } }))) ∧
    (s.Accepts .silence p pl →
      let quiet := fun l : Line => { s.aou.lines.get l with
        silenced := (s.aou.lines.get l).silenced || (s.params.lines.get l).silenceable }
      exec (.silence p pl) s = .next (State.respond p 0x46#8 ⟨.ok, []⟩
        (State.followAlarms { s.hunt p with aou := { lines := ⟨quiet .alm1, quiet .alm2⟩ } }))) ∧
    (s.timeMs.toNat % 250 = 0 →
      let on := fun l : Line =>
        let time := s.timeMs.toNat
        let phase := match (s.params.lines.get l).mode with
          | .steady => true
          | .blink1Hz => decide (time % 1000 < 500)
          | .blink2Hz => decide (time % 500 < 250)
        { s.aou.lines.get l with
          conducting := s.lineActive l && !(s.aou.lines.get l).silenced && phase }
      exec .alarmBlinkPhase s = .next { s with aou := { lines := ⟨on .alm1, on .alm2⟩ } })

/-- A pin reset retains TIME_MS, the parameters, the station map, the stores, the active profile, the nozzle records and the
default designation and leaves the rest as at power-on. RESTART is refused with RANGE for a byte above 1 and with PENDING
while outcomes are held without FORCE; taken, it also retains the outcome and incident counters, the incidents, the
reservoir, the channels' samples, the last level, the budget, the latched flags of every block, the silence of the lines and
the event masks, loads the levels of the pins, and empties the table, the tickets, the counts, the lanes, the outcomes and
the event sets, adding OUTCOMES_DISCARDED where it discards outcomes; with ESTOP_N active at the pin it enters TRIP. The
model's choices in it: the pins and that entry to TRIP (logs 48, 15), the waiting commands (log 38), PRB_DIR, the fan
feedbacks and the notes (log 16), the first step of the homing ascent due at once (log 39), and after a pin reset the event sets
empty also where ESTOP_N is active and the reset enters TRIP with its incident (DEDUCED, log 18). -/
def Obligations.PinResetAndRestart : Prop :=
  (∀ (pins : InputPins) (s : State), ∃ t, exec (.pinReset pins) s = .next t ∧ t.timeMs = s.timeMs ∧ t.tenth = s.tenth ∧
    t.wireReads = s.wireReads ∧ t.settings = s.settings ∧ t.pending = s.pending ∧ t.pins = pins ∧
    t.ctr = ⟨pins.encA, pins.encB, 0, 0, 0, false, 0, 0, s.ctr.map, s.ctr.mapValid, [], 0, false, pins.entryBlocked,
      pins.exitBlocked⟩ ∧
    t.adu = ⟨[], s.adu.default, false, none⟩ ∧
    t.rps = { s.rps with refs := Vector.replicate 32 0, settle := .unsettled, settleTimer := 0 } ∧
    t.fdu = ⟨s.fdu.nozzles, Vector.replicate 8 ⟨0, 0, none, false, .idle⟩, .none, false, 0, false, false, 0, none⟩ ∧
    (∀ k, (t.hcu.ch.get k).AtZero ∧ (t.hcu.ch.get k).sample = .none ∧ (t.hcu.ch.get k).invalid = 0 ∧
      (t.hcu.ch.get k).tcOpen = false ∧ (t.hcu.ch.get k).overtemp = false) ∧
    t.hcu = ⟨t.hcu.ch, 0, s.timeMs, false, false, .none⟩ ∧
    t.wpu = ⟨false, none, none, false, ⟨⟨.off, 0, 0, 0, 0, false, pins.runChip, false⟩,
      ⟨.off, 0, 0, 0, 0, false, pins.runMain, false⟩⟩, true⟩ ∧
    t.lvu = { (State.reset.lvu : Lvu) with
      probe := if pins.probeHome then .parked else .ascending, steps := 0, contactTimer := 0, afterResult := false
      dirUp := true, unread := false, startDue := false, last := none, interval := some 0, request := none, gap := false
      feeder := .idle, settleTimer := 0, budget := s.params.budgetMax, high := false, low := false, critical := false
      probeFault := false, feedBudget := false, wireOut := false, wireTimer := 0, feedPace := 0
      pace := if pins.probeHome then 0 else 20, target := t.lvu.target } ∧
    (∀ h, t.exm.hoods.get h = ⟨.none, false, false, 0, 0, 0, 0, 0, false, false, false, false, false, 0,
      !(s.params.hoods.get h).enabled, (s.params.hoods.get h).qualify, s.params.proveTime, (s.params.hoods.get h).grace⟩) ∧
    t.psc = ⟨if pins.estopActive then .trip .estop else .standby, pins.estopActive⟩ ∧
    (∀ l, (t.aou.lines.get l).silenced = false ∧ (t.aou.lines.get l).conducting = t.lineConducts l) ∧ t.oq = ⟨[], 0⟩ ∧
    t.inl = (if pins.estopActive then ⟨[⟨1, s.timeMs, .stateTrip, none, none, some 1⟩], 1⟩ else ⟨[], 0⟩) ∧
    ∀ p, t.scp.ports.get p = ⟨none, 0, none, none, 0#6, match p with | .m => 0x07#6 | .t => 0x3F#6 | .l => 0x08#6⟩) ∧
  ∀ (p : Port) (pl : List Byte) (s : State), s.Accepts .restart p pl →
    (1 < byteAt pl 0 → exec (.restart p pl) s = .next ((s.hunt p).respond p 0x38#8 ⟨.range, []⟩)) ∧
    (byteAt pl 0 = 0 → s.oq.outcomes ≠ [] → exec (.restart p pl) s = .next ((s.hunt p).respond p 0x38#8 ⟨.pending, []⟩)) ∧
    (byteAt pl 0 ≤ 1 → (byteAt pl 0 = 1 ∨ s.oq.outcomes = []) →
      let pins := s.pins
      let tripped : List Incident := if pins.estopActive then
        [⟨s.inl.counter + 1, s.timeMs, .stateTrip, none, none, some 1⟩] else []
      let counted : Word := s.inl.counter + (if pins.estopActive then 1 else 0)
      let dropped : List Incident := if s.oq.outcomes = [] then [] else
        [⟨counted + 1, s.timeMs, .outcomesDiscarded, none, none, valueOf (s.oq.outcomes.length : Int)⟩]
      let added := tripped ++ dropped
      ∃ t, exec (.restart p pl) s = .next t ∧ t.timeMs = s.timeMs ∧ t.tenth = s.tenth ∧ t.settings = s.settings ∧
        t.wireReads = s.wireReads ∧ t.pending = s.pending ∧ t.pins = pins ∧
        t.ctr = ⟨pins.encA, pins.encB, 0, 0, 0, false, 0, 0, s.ctr.map, s.ctr.mapValid, [], 0, s.ctr.trackAlert,
          pins.entryBlocked, pins.exitBlocked⟩ ∧
        t.adu = ⟨[], s.adu.default, false, none⟩ ∧
        t.rps = { s.rps with refs := Vector.replicate 32 0, settle := .unsettled, settleTimer := 0 } ∧
        t.fdu = ⟨s.fdu.nozzles, Vector.replicate 8 ⟨0, 0, none, false, .idle⟩, .none, false, 0, s.fdu.fluxPressure,
          s.fdu.reservoirLow, s.fdu.reservoir, t.inhibitCause⟩ ∧
        t.hcu = ⟨s.hcu.ch.map fun u => { u with integral := 0, power := 0, firing := 0, ssr := false }, 0, s.hcu.lastHalf,
          false, s.hcu.mainsSync, .none⟩ ∧
        t.wpu = ⟨false, none, none, false, ⟨⟨.off, 0, 0, 0, 0, s.wpu.pumps.chip.fault, pins.runChip, false⟩,
          ⟨.off, 0, 0, 0, 0, s.wpu.pumps.main.fault, pins.runMain, false⟩⟩, true⟩ ∧
        t.lvu = { s.lvu with
          probe := if pins.probeHome then .parked else .ascending, steps := 0, pace := if pins.probeHome then 0 else 20
          contactTimer := 0, afterResult := false, dirUp := true, unread := false, startDue := false
          interval := if s.lvu.probeFault then none else some 0, request := none, gap := false, feeder := .idle
          feedPace := 0, settleTimer := 0, wireTimer := 0 } ∧
        (∀ h, let u := s.exm.hoods.get h
          t.exm.hoods.get h = ⟨.none, false, false, 0, 0, 0, 0, 0, u.flowWarn, u.flowLoss, u.fanStop, u.escalated, false, 0,
            !(s.params.hoods.get h).enabled, (s.params.hoods.get h).qualify, s.params.proveTime,
            (s.params.hoods.get h).grace⟩) ∧
        t.psc = ⟨if pins.estopActive then .trip .estop else .standby, pins.estopActive⟩ ∧
        (∀ l, (t.aou.lines.get l).conducting = t.lineConducts l ∧ (t.aou.lines.get l).silenced =
          ((s.aou.lines.get l).silenced && !(pins.estopActive && (s.params.lines.get l).classes.getLsbD 6))) ∧
        t.oq = ⟨[], s.oq.counter⟩ ∧ t.inl.counter = s.inl.counter + BitVec.ofNat 32 added.length ∧
        t.inl.incidents = added.foldl (fun is i => (if is.length < 32 then is else is.tail) ++ [i]) s.inl.incidents ∧
        ∀ k, t.scp.ports.get k = (
          let kept : PortState :=
            { s.scp.ports.get k with events := if added = [] then 0#6 else 0x20#6 }
          if k = p then { kept with
            rx := none, gap := 0, answering := some (responseFrame 0x38#8 ⟨.ok, []⟩) } else kept))

end
end

