-- ==== Sys2Proof/WellFormed.lean ====
section
/-! DEFINITION. The commands that a port or a pin can in fact give: a frame's payload is at most 96 bytes (R196), and an
UNKNOWN_COMMAND carries a CMD byte that no command table has (R198). -/

namespace Sys2Proof

/-- A payload that a frame can carry (R196, Table 11.6). -/
def payloadFits (pl : List Byte) : Bool := decide (pl.length ≤ Config.payloadMax)

/-- A command is well formed. -/
def Instr.wellFormed : Instr → Bool
  | .encoderCount _ _ => true
  | .quadratureGlitch => true
  | .speedWindowEnd => true
  | .stall => true
  | .entryLeadingEdge => true
  | .entryTrailingEdge => true
  | .exitLeadingEdge => true
  | .exitTrailingEdge => true
  | .admitGraceExpiry => true
  | .setGeometry _ pl => payloadFits pl
  | .addTicket _ pl => payloadFits pl
  | .withdrawTicket _ pl => payloadFits pl
  | .flushTickets _ pl => payloadFits pl
  | .setDefault _ pl => payloadFits pl
  | .loadProfile _ pl => payloadFits pl
  | .eraseProfile _ pl => payloadFits pl
  | .selectProfile _ pl => payloadFits pl
  | .loadRecipe _ pl => payloadFits pl
  | .eraseRecipe _ pl => payloadFits pl
  | .setNozzle _ pl => payloadFits pl
  | .refillFlux _ pl => payloadFits pl
  | .valveOnEnd _ => true
  | .holdoffEnd _ => true
  | .fluxPressureSample _ => true
  | .fluxPressure => true
  | .ackFlux _ pl => payloadFits pl
  | .tcSample _ _ => true
  | .tcOpen _ => true
  | .halfCycle => true
  | .mainsSync => true
  | .ackHeater _ pl => payloadFits pl
  | .pyroSample _ => true
  | .parkTimeTick => true
  | .potMoltenSet => true
  | .pumpRampStep => true
  | .pumpFeedbackChange _ _ => true
  | .minimumOffExpiry _ => true
  | .pumpFault _ => true
  | .waveUp _ pl => payloadFits pl
  | .waveDown _ pl => payloadFits pl
  | .ackPump _ pl => payloadFits pl
  | .settled => true
  | .levelIntervalExpiry => true
  | .measurementStart _ _ => true
  | .probeDownStep _ _ => true
  | .probeContactLost => true
  | .levelResult => true
  | .probeUpStep _ => true
  | .levelGap => true
  | .feedStep => true
  | .feedEnd => true
  | .meltSettleEnd => true
  | .budgetRefill => true
  | .wireOut => true
  | .ackLevel _ pl => payloadFits pl
  | .hoodSample _ _ _ => true
  | .fanStop _ => true
  | .flowLoss _ => true
  | .flowWarn _ => true
  | .hoodRecovery _ => true
  | .hoodProven _ => true
  | .extractionEscalated _ => true
  | .ackHood _ pl => payloadFits pl
  | .estopChange _ => true
  | .warm _ pl => payloadFits pl
  | .cool _ pl => payloadFits pl
  | .start _ pl => payloadFits pl
  | .stop _ pl => payloadFits pl
  | .hold _ pl => payloadFits pl
  | .resume _ pl => payloadFits pl
  | .trip _ pl => payloadFits pl
  | .clear _ pl => payloadFits pl
  | .restart _ pl => payloadFits pl
  | .ackTrack _ pl => payloadFits pl
  | .silence _ pl => payloadFits pl
  | .popOutcome _ pl => payloadFits pl
  | .peekOutcome _ pl => payloadFits pl
  | .readIncidents _ pl => payloadFits pl
  | .clearIncidents _ pl => payloadFits pl
  | .setParam _ pl => payloadFits pl
  | .readParam _ pl => payloadFits pl
  | .setEventMask _ pl => payloadFits pl
  | .getEvents _ pl => payloadFits pl
  | .readStatus _ pl => payloadFits pl
  | .readAdmission _ pl => payloadFits pl
  | .readTrack _ pl => payloadFits pl
  | .readBoard _ pl => payloadFits pl
  | .readGeometry _ pl => payloadFits pl
  | .readProfile _ pl => payloadFits pl
  | .readRecipe _ pl => payloadFits pl
  | .readFlux _ pl => payloadFits pl
  | .readHeater _ pl => payloadFits pl
  | .readPumps _ pl => payloadFits pl
  | .readLevel _ pl => payloadFits pl
  | .readExtraction _ pl => payloadFits pl
  | .readAlarms _ pl => payloadFits pl
  | .unknownCommand _ code pl => (Machine.commandOf code).isNone && payloadFits pl
  | .frameCrcError _ _ => true
  | .frameTimeout _ => true
  | .frameDiscarded _ _ => true
  | .responseSent _ => true
  | .powerOnReset _ => true
  | .pinReset _ => true
  | .byteReceived _ _ _ => true
  | .alarmBlinkPhase => true

end Sys2Proof
end

