-- ==== Sys2Proof/Laws/PerInstr.lean ====
section
/-! SUPPORT. The family `Frames`, one lemma per row of the opcode table: a well-formed command carries no payload longer than
the 96 bytes of a frame (R196). -/

namespace Sys2Proof

/-- The payload that a command's frame carries; none where the command comes from a pin, a timer or a byte. -/
def Instr.payload : Instr → List Byte
  | .setGeometry _ pl => pl
  | .addTicket _ pl => pl
  | .withdrawTicket _ pl => pl
  | .flushTickets _ pl => pl
  | .setDefault _ pl => pl
  | .loadProfile _ pl => pl
  | .eraseProfile _ pl => pl
  | .selectProfile _ pl => pl
  | .loadRecipe _ pl => pl
  | .eraseRecipe _ pl => pl
  | .setNozzle _ pl => pl
  | .refillFlux _ pl => pl
  | .ackFlux _ pl => pl
  | .ackHeater _ pl => pl
  | .waveUp _ pl => pl
  | .waveDown _ pl => pl
  | .ackPump _ pl => pl
  | .ackLevel _ pl => pl
  | .ackHood _ pl => pl
  | .warm _ pl => pl
  | .cool _ pl => pl
  | .start _ pl => pl
  | .stop _ pl => pl
  | .hold _ pl => pl
  | .resume _ pl => pl
  | .trip _ pl => pl
  | .clear _ pl => pl
  | .restart _ pl => pl
  | .ackTrack _ pl => pl
  | .silence _ pl => pl
  | .popOutcome _ pl => pl
  | .peekOutcome _ pl => pl
  | .readIncidents _ pl => pl
  | .clearIncidents _ pl => pl
  | .setParam _ pl => pl
  | .readParam _ pl => pl
  | .setEventMask _ pl => pl
  | .getEvents _ pl => pl
  | .readStatus _ pl => pl
  | .readAdmission _ pl => pl
  | .readTrack _ pl => pl
  | .readBoard _ pl => pl
  | .readGeometry _ pl => pl
  | .readProfile _ pl => pl
  | .readRecipe _ pl => pl
  | .readFlux _ pl => pl
  | .readHeater _ pl => pl
  | .readPumps _ pl => pl
  | .readLevel _ pl => pl
  | .readExtraction _ pl => pl
  | .readAlarms _ pl => pl
  | .unknownCommand _ _ pl => pl
  | _ => []

end Sys2Proof

namespace Sys2Proof.Laws.Frames

/-- A well-formed command's payload has at most 96 bytes. -/
def Statement (i : Instr) : Prop := i.wellFormed = true → i.payload.length ≤ Config.payloadMax

theorem encoderCount (a b : Bool) : Statement (.encoderCount a b) := fun _ => Nat.zero_le _
theorem quadratureGlitch : Statement .quadratureGlitch := fun _ => Nat.zero_le _
theorem speedWindowEnd : Statement .speedWindowEnd := fun _ => Nat.zero_le _
theorem stall : Statement .stall := fun _ => Nat.zero_le _
theorem entryLeadingEdge : Statement .entryLeadingEdge := fun _ => Nat.zero_le _
theorem entryTrailingEdge : Statement .entryTrailingEdge := fun _ => Nat.zero_le _
theorem exitLeadingEdge : Statement .exitLeadingEdge := fun _ => Nat.zero_le _
theorem exitTrailingEdge : Statement .exitTrailingEdge := fun _ => Nat.zero_le _
theorem admitGraceExpiry : Statement .admitGraceExpiry := fun _ => Nat.zero_le _
theorem setGeometry (p : Port) (payload : List Byte) : Statement (.setGeometry p payload) :=
  fun h => of_decide_eq_true h
theorem addTicket (p : Port) (payload : List Byte) : Statement (.addTicket p payload) := fun h => of_decide_eq_true h
theorem withdrawTicket (p : Port) (payload : List Byte) : Statement (.withdrawTicket p payload) :=
  fun h => of_decide_eq_true h
theorem flushTickets (p : Port) (payload : List Byte) : Statement (.flushTickets p payload) :=
  fun h => of_decide_eq_true h
theorem setDefault (p : Port) (payload : List Byte) : Statement (.setDefault p payload) := fun h => of_decide_eq_true h
theorem loadProfile (p : Port) (payload : List Byte) : Statement (.loadProfile p payload) :=
  fun h => of_decide_eq_true h
theorem eraseProfile (p : Port) (payload : List Byte) : Statement (.eraseProfile p payload) :=
  fun h => of_decide_eq_true h
theorem selectProfile (p : Port) (payload : List Byte) : Statement (.selectProfile p payload) :=
  fun h => of_decide_eq_true h
theorem loadRecipe (p : Port) (payload : List Byte) : Statement (.loadRecipe p payload) := fun h => of_decide_eq_true h
theorem eraseRecipe (p : Port) (payload : List Byte) : Statement (.eraseRecipe p payload) :=
  fun h => of_decide_eq_true h
theorem setNozzle (p : Port) (payload : List Byte) : Statement (.setNozzle p payload) := fun h => of_decide_eq_true h
theorem refillFlux (p : Port) (payload : List Byte) : Statement (.refillFlux p payload) := fun h => of_decide_eq_true h
theorem valveOnEnd (l : Fin 8) : Statement (.valveOnEnd l) := fun _ => Nat.zero_le _
theorem holdoffEnd (l : Fin 8) : Statement (.holdoffEnd l) := fun _ => Nat.zero_le _
theorem fluxPressureSample (current : Nat) : Statement (.fluxPressureSample current) := fun _ => Nat.zero_le _
theorem fluxPressure : Statement .fluxPressure := fun _ => Nat.zero_le _
theorem ackFlux (p : Port) (payload : List Byte) : Statement (.ackFlux p payload) := fun h => of_decide_eq_true h
theorem tcSample (c : Channel) (conv : Option Int) : Statement (.tcSample c conv) := fun _ => Nat.zero_le _
theorem tcOpen (c : Channel) : Statement (.tcOpen c) := fun _ => Nat.zero_le _
theorem halfCycle : Statement .halfCycle := fun _ => Nat.zero_le _
theorem mainsSync : Statement .mainsSync := fun _ => Nat.zero_le _
theorem ackHeater (p : Port) (payload : List Byte) : Statement (.ackHeater p payload) := fun h => of_decide_eq_true h
theorem pyroSample (current : Nat) : Statement (.pyroSample current) := fun _ => Nat.zero_le _
theorem parkTimeTick : Statement .parkTimeTick := fun _ => Nat.zero_le _
theorem potMoltenSet : Statement .potMoltenSet := fun _ => Nat.zero_le _
theorem pumpRampStep : Statement .pumpRampStep := fun _ => Nat.zero_le _
theorem pumpFeedbackChange (p : Pump) (present : Bool) : Statement (.pumpFeedbackChange p present) :=
  fun _ => Nat.zero_le _
theorem minimumOffExpiry (p : Pump) : Statement (.minimumOffExpiry p) := fun _ => Nat.zero_le _
theorem pumpFault (p : Pump) : Statement (.pumpFault p) := fun _ => Nat.zero_le _
theorem waveUp (p : Port) (payload : List Byte) : Statement (.waveUp p payload) := fun h => of_decide_eq_true h
theorem waveDown (p : Port) (payload : List Byte) : Statement (.waveDown p payload) := fun h => of_decide_eq_true h
theorem ackPump (p : Port) (payload : List Byte) : Statement (.ackPump p payload) := fun h => of_decide_eq_true h
theorem settled : Statement .settled := fun _ => Nat.zero_le _
theorem levelIntervalExpiry : Statement .levelIntervalExpiry := fun _ => Nat.zero_le _
theorem measurementStart (contact home : Bool) : Statement (.measurementStart contact home) := fun _ => Nat.zero_le _
theorem probeDownStep (contact home : Bool) : Statement (.probeDownStep contact home) := fun _ => Nat.zero_le _
theorem probeContactLost : Statement .probeContactLost := fun _ => Nat.zero_le _
theorem levelResult : Statement .levelResult := fun _ => Nat.zero_le _
theorem probeUpStep (home : Bool) : Statement (.probeUpStep home) := fun _ => Nat.zero_le _
theorem levelGap : Statement .levelGap := fun _ => Nat.zero_le _
theorem feedStep : Statement .feedStep := fun _ => Nat.zero_le _
theorem feedEnd : Statement .feedEnd := fun _ => Nat.zero_le _
theorem meltSettleEnd : Statement .meltSettleEnd := fun _ => Nat.zero_le _
theorem budgetRefill : Statement .budgetRefill := fun _ => Nat.zero_le _
theorem wireOut : Statement .wireOut := fun _ => Nat.zero_le _
theorem ackLevel (p : Port) (payload : List Byte) : Statement (.ackLevel p payload) := fun h => of_decide_eq_true h
theorem hoodSample (h : Hood) (current : Nat) (fan : Bool) : Statement (.hoodSample h current fan) :=
  fun _ => Nat.zero_le _
theorem fanStop (h : Hood) : Statement (.fanStop h) := fun _ => Nat.zero_le _
theorem flowLoss (h : Hood) : Statement (.flowLoss h) := fun _ => Nat.zero_le _
theorem flowWarn (h : Hood) : Statement (.flowWarn h) := fun _ => Nat.zero_le _
theorem hoodRecovery (h : Hood) : Statement (.hoodRecovery h) := fun _ => Nat.zero_le _
theorem hoodProven (h : Hood) : Statement (.hoodProven h) := fun _ => Nat.zero_le _
theorem extractionEscalated (h : Hood) : Statement (.extractionEscalated h) := fun _ => Nat.zero_le _
theorem ackHood (p : Port) (payload : List Byte) : Statement (.ackHood p payload) := fun h => of_decide_eq_true h
theorem estopChange (active : Bool) : Statement (.estopChange active) := fun _ => Nat.zero_le _
theorem warm (p : Port) (payload : List Byte) : Statement (.warm p payload) := fun h => of_decide_eq_true h
theorem cool (p : Port) (payload : List Byte) : Statement (.cool p payload) := fun h => of_decide_eq_true h
theorem start (p : Port) (payload : List Byte) : Statement (.start p payload) := fun h => of_decide_eq_true h
theorem stop (p : Port) (payload : List Byte) : Statement (.stop p payload) := fun h => of_decide_eq_true h
theorem hold (p : Port) (payload : List Byte) : Statement (.hold p payload) := fun h => of_decide_eq_true h
theorem resume (p : Port) (payload : List Byte) : Statement (.resume p payload) := fun h => of_decide_eq_true h
theorem trip (p : Port) (payload : List Byte) : Statement (.trip p payload) := fun h => of_decide_eq_true h
theorem clear (p : Port) (payload : List Byte) : Statement (.clear p payload) := fun h => of_decide_eq_true h
theorem restart (p : Port) (payload : List Byte) : Statement (.restart p payload) := fun h => of_decide_eq_true h
theorem ackTrack (p : Port) (payload : List Byte) : Statement (.ackTrack p payload) := fun h => of_decide_eq_true h
theorem silence (p : Port) (payload : List Byte) : Statement (.silence p payload) := fun h => of_decide_eq_true h
theorem popOutcome (p : Port) (payload : List Byte) : Statement (.popOutcome p payload) := fun h => of_decide_eq_true h
theorem peekOutcome (p : Port) (payload : List Byte) : Statement (.peekOutcome p payload) :=
  fun h => of_decide_eq_true h
theorem readIncidents (p : Port) (payload : List Byte) : Statement (.readIncidents p payload) :=
  fun h => of_decide_eq_true h
theorem clearIncidents (p : Port) (payload : List Byte) : Statement (.clearIncidents p payload) :=
  fun h => of_decide_eq_true h
theorem setParam (p : Port) (payload : List Byte) : Statement (.setParam p payload) := fun h => of_decide_eq_true h
theorem readParam (p : Port) (payload : List Byte) : Statement (.readParam p payload) := fun h => of_decide_eq_true h
theorem setEventMask (p : Port) (payload : List Byte) : Statement (.setEventMask p payload) :=
  fun h => of_decide_eq_true h
theorem getEvents (p : Port) (payload : List Byte) : Statement (.getEvents p payload) := fun h => of_decide_eq_true h
theorem readStatus (p : Port) (payload : List Byte) : Statement (.readStatus p payload) := fun h => of_decide_eq_true h
theorem readAdmission (p : Port) (payload : List Byte) : Statement (.readAdmission p payload) :=
  fun h => of_decide_eq_true h
theorem readTrack (p : Port) (payload : List Byte) : Statement (.readTrack p payload) := fun h => of_decide_eq_true h
theorem readBoard (p : Port) (payload : List Byte) : Statement (.readBoard p payload) := fun h => of_decide_eq_true h
theorem readGeometry (p : Port) (payload : List Byte) : Statement (.readGeometry p payload) :=
  fun h => of_decide_eq_true h
theorem readProfile (p : Port) (payload : List Byte) : Statement (.readProfile p payload) :=
  fun h => of_decide_eq_true h
theorem readRecipe (p : Port) (payload : List Byte) : Statement (.readRecipe p payload) := fun h => of_decide_eq_true h
theorem readFlux (p : Port) (payload : List Byte) : Statement (.readFlux p payload) := fun h => of_decide_eq_true h
theorem readHeater (p : Port) (payload : List Byte) : Statement (.readHeater p payload) := fun h => of_decide_eq_true h
theorem readPumps (p : Port) (payload : List Byte) : Statement (.readPumps p payload) := fun h => of_decide_eq_true h
theorem readLevel (p : Port) (payload : List Byte) : Statement (.readLevel p payload) := fun h => of_decide_eq_true h
theorem readExtraction (p : Port) (payload : List Byte) : Statement (.readExtraction p payload) :=
  fun h => of_decide_eq_true h
theorem readAlarms (p : Port) (payload : List Byte) : Statement (.readAlarms p payload) := fun h => of_decide_eq_true h
theorem unknownCommand (p : Port) (code : Byte) (payload : List Byte) : Statement (.unknownCommand p code payload) :=
  fun h => of_decide_eq_true (Bool.and_eq_true_iff.mp h).2
theorem frameCrcError (p : Port) (last : Byte) : Statement (.frameCrcError p last) := fun _ => Nat.zero_le _
theorem frameTimeout (p : Port) : Statement (.frameTimeout p) := fun _ => Nat.zero_le _
theorem frameDiscarded (p : Port) (last : Byte) : Statement (.frameDiscarded p last) := fun _ => Nat.zero_le _
theorem responseSent (p : Port) : Statement (.responseSent p) := fun _ => Nat.zero_le _
theorem powerOnReset (pins : InputPins) : Statement (.powerOnReset pins) := fun _ => Nat.zero_le _
theorem pinReset (pins : InputPins) : Statement (.pinReset pins) := fun _ => Nat.zero_le _
theorem byteReceived (p : Port) (b : Byte) (framingError : Bool) : Statement (.byteReceived p b framingError) :=
  fun _ => Nat.zero_le _
theorem alarmBlinkPhase : Statement .alarmBlinkPhase := fun _ => Nat.zero_le _

end Sys2Proof.Laws.Frames
end

