-- ==== Sys2Proof/Laws/State.lean ====
section
/-! SUPPORT. One lemma per field of State for each update of one block, and the lemmas of the sets kept per port, channel,
zone, pump, hood and line: what is written is read back, and the other items stand. -/

namespace Sys2Proof.Machine

/-! ## Sets kept per unit -/

@[simp] theorem PerPort.get_set_self {α : Type} (q : PerPort α) (i : Port) (v : α) : (q.set i v).get i = v := by cases i <;> rfl

theorem PerPort.get_set_ne {α : Type} (q : PerPort α) {i j : Port} (v : α) (h : j ≠ i) : (q.set i v).get j = q.get j := by
  cases i <;> cases j <;> first | rfl | exact absurd rfl h

theorem PerPort.get_set {α : Type} (q : PerPort α) (i j : Port) (v : α) :
    (q.set i v).get j = if j = i then v else q.get j := by
  cases i <;> cases j <;> rfl

@[simp] theorem PerPort.set_get {α : Type} (q : PerPort α) (i : Port) : q.set i (q.get i) = q := by cases i <;> rfl

@[simp] theorem PerPort.get_map {α β : Type} (f : α → β) (q : PerPort α) (i : Port) : (q.map f).get i = f (q.get i) := by
  cases i <;> rfl

@[simp] theorem PerPort.map_map {α β γ : Type} (g : β → γ) (f : α → β) (q : PerPort α) :
    (q.map f).map g = q.map fun x => g (f x) := rfl

theorem PerPort.map_set {α β : Type} (f : α → β) (q : PerPort α) (i : Port) (v : α) :
    (q.set i v).map f = (q.map f).set i (f v) := by cases i <;> rfl

theorem PerPort.ext_get {α : Type} {q r : PerPort α} (h : ∀ i, q.get i = r.get i) : q = r := by
  cases q; cases r; simp only [PerPort.mk.injEq]; exact ⟨h .m, h .t, h .l⟩

@[simp] theorem PerChannel.get_set_self {α : Type} (q : PerChannel α) (i : Channel) (v : α) : (q.set i v).get i = v := by cases i <;> rfl

theorem PerChannel.get_set_ne {α : Type} (q : PerChannel α) {i j : Channel} (v : α) (h : j ≠ i) : (q.set i v).get j = q.get j := by
  cases i <;> cases j <;> first | rfl | exact absurd rfl h

theorem PerChannel.get_set {α : Type} (q : PerChannel α) (i j : Channel) (v : α) :
    (q.set i v).get j = if j = i then v else q.get j := by
  cases i <;> cases j <;> rfl

@[simp] theorem PerChannel.set_get {α : Type} (q : PerChannel α) (i : Channel) : q.set i (q.get i) = q := by cases i <;> rfl

@[simp] theorem PerChannel.get_map {α β : Type} (f : α → β) (q : PerChannel α) (i : Channel) : (q.map f).get i = f (q.get i) := by
  cases i <;> rfl

@[simp] theorem PerChannel.map_map {α β γ : Type} (g : β → γ) (f : α → β) (q : PerChannel α) :
    (q.map f).map g = q.map fun x => g (f x) := rfl

theorem PerChannel.map_set {α β : Type} (f : α → β) (q : PerChannel α) (i : Channel) (v : α) :
    (q.set i v).map f = (q.map f).set i (f v) := by cases i <;> rfl

theorem PerChannel.ext_get {α : Type} {q r : PerChannel α} (h : ∀ i, q.get i = r.get i) : q = r := by
  cases q; cases r; simp only [PerChannel.mk.injEq]; exact ⟨h .z1, h .z2, h .z3, h .pot⟩

@[simp] theorem PerZone.get_set_self {α : Type} (q : PerZone α) (i : Zone) (v : α) : (q.set i v).get i = v := by cases i <;> rfl

theorem PerZone.get_set_ne {α : Type} (q : PerZone α) {i j : Zone} (v : α) (h : j ≠ i) : (q.set i v).get j = q.get j := by
  cases i <;> cases j <;> first | rfl | exact absurd rfl h

theorem PerZone.get_set {α : Type} (q : PerZone α) (i j : Zone) (v : α) :
    (q.set i v).get j = if j = i then v else q.get j := by
  cases i <;> cases j <;> rfl

@[simp] theorem PerZone.set_get {α : Type} (q : PerZone α) (i : Zone) : q.set i (q.get i) = q := by cases i <;> rfl

theorem PerZone.ext_get {α : Type} {q r : PerZone α} (h : ∀ i, q.get i = r.get i) : q = r := by
  cases q; cases r; simp only [PerZone.mk.injEq]; exact ⟨h .z1, h .z2, h .z3⟩

@[simp] theorem PerPump.get_set_self {α : Type} (q : PerPump α) (i : Pump) (v : α) : (q.set i v).get i = v := by cases i <;> rfl

theorem PerPump.get_set_ne {α : Type} (q : PerPump α) {i j : Pump} (v : α) (h : j ≠ i) : (q.set i v).get j = q.get j := by
  cases i <;> cases j <;> first | rfl | exact absurd rfl h

theorem PerPump.get_set {α : Type} (q : PerPump α) (i j : Pump) (v : α) :
    (q.set i v).get j = if j = i then v else q.get j := by
  cases i <;> cases j <;> rfl

@[simp] theorem PerPump.set_get {α : Type} (q : PerPump α) (i : Pump) : q.set i (q.get i) = q := by cases i <;> rfl

@[simp] theorem PerPump.get_map {α β : Type} (f : α → β) (q : PerPump α) (i : Pump) : (q.map f).get i = f (q.get i) := by
  cases i <;> rfl

@[simp] theorem PerPump.map_map {α β γ : Type} (g : β → γ) (f : α → β) (q : PerPump α) :
    (q.map f).map g = q.map fun x => g (f x) := rfl

theorem PerPump.map_set {α β : Type} (f : α → β) (q : PerPump α) (i : Pump) (v : α) :
    (q.set i v).map f = (q.map f).set i (f v) := by cases i <;> rfl

theorem PerPump.ext_get {α : Type} {q r : PerPump α} (h : ∀ i, q.get i = r.get i) : q = r := by
  cases q; cases r; simp only [PerPump.mk.injEq]; exact ⟨h .chip, h .main⟩

@[simp] theorem PerHood.get_set_self {α : Type} (q : PerHood α) (i : Hood) (v : α) : (q.set i v).get i = v := by cases i <;> rfl

theorem PerHood.get_set_ne {α : Type} (q : PerHood α) {i j : Hood} (v : α) (h : j ≠ i) : (q.set i v).get j = q.get j := by
  cases i <;> cases j <;> first | rfl | exact absurd rfl h

theorem PerHood.get_set {α : Type} (q : PerHood α) (i j : Hood) (v : α) :
    (q.set i v).get j = if j = i then v else q.get j := by
  cases i <;> cases j <;> rfl

@[simp] theorem PerHood.set_get {α : Type} (q : PerHood α) (i : Hood) : q.set i (q.get i) = q := by cases i <;> rfl

@[simp] theorem PerHood.get_map {α β : Type} (f : α → β) (q : PerHood α) (i : Hood) : (q.map f).get i = f (q.get i) := by
  cases i <;> rfl

@[simp] theorem PerHood.map_map {α β γ : Type} (g : β → γ) (f : α → β) (q : PerHood α) :
    (q.map f).map g = q.map fun x => g (f x) := rfl

theorem PerHood.map_set {α β : Type} (f : α → β) (q : PerHood α) (i : Hood) (v : α) :
    (q.set i v).map f = (q.map f).set i (f v) := by cases i <;> rfl

theorem PerHood.ext_get {α : Type} {q r : PerHood α} (h : ∀ i, q.get i = r.get i) : q = r := by
  cases q; cases r; simp only [PerHood.mk.injEq]; exact ⟨h .flux, h .preheat, h .wave⟩

@[simp] theorem PerLine.get_set_self {α : Type} (q : PerLine α) (i : Line) (v : α) : (q.set i v).get i = v := by cases i <;> rfl

theorem PerLine.get_set_ne {α : Type} (q : PerLine α) {i j : Line} (v : α) (h : j ≠ i) : (q.set i v).get j = q.get j := by
  cases i <;> cases j <;> first | rfl | exact absurd rfl h

theorem PerLine.get_set {α : Type} (q : PerLine α) (i j : Line) (v : α) :
    (q.set i v).get j = if j = i then v else q.get j := by
  cases i <;> cases j <;> rfl

@[simp] theorem PerLine.set_get {α : Type} (q : PerLine α) (i : Line) : q.set i (q.get i) = q := by cases i <;> rfl

theorem PerLine.ext_get {α : Type} {q r : PerLine α} (h : ∀ i, q.get i = r.get i) : q = r := by
  cases q; cases r; simp only [PerLine.mk.injEq]; exact ⟨h .alm1, h .alm2⟩

/-! ## One block of the state changed -/

@[simp] theorem State.modCtr_timeMs (f : Ctr → Ctr) (s : State) : (s.modCtr f).timeMs = s.timeMs := rfl
@[simp] theorem State.modCtr_tenth (f : Ctr → Ctr) (s : State) : (s.modCtr f).tenth = s.tenth := rfl
@[simp] theorem State.modCtr_wireReads (f : Ctr → Ctr) (s : State) : (s.modCtr f).wireReads = s.wireReads := rfl
@[simp] theorem State.modCtr_pins (f : Ctr → Ctr) (s : State) : (s.modCtr f).pins = s.pins := rfl
@[simp] theorem State.modCtr_params (f : Ctr → Ctr) (s : State) : (s.modCtr f).params = s.params := rfl
@[simp] theorem State.modCtr_ctr (f : Ctr → Ctr) (s : State) : (s.modCtr f).ctr = f s.ctr := rfl
@[simp] theorem State.modCtr_adu (f : Ctr → Ctr) (s : State) : (s.modCtr f).adu = s.adu := rfl
@[simp] theorem State.modCtr_rps (f : Ctr → Ctr) (s : State) : (s.modCtr f).rps = s.rps := rfl
@[simp] theorem State.modCtr_fdu (f : Ctr → Ctr) (s : State) : (s.modCtr f).fdu = s.fdu := rfl
@[simp] theorem State.modCtr_hcu (f : Ctr → Ctr) (s : State) : (s.modCtr f).hcu = s.hcu := rfl
@[simp] theorem State.modCtr_wpu (f : Ctr → Ctr) (s : State) : (s.modCtr f).wpu = s.wpu := rfl
@[simp] theorem State.modCtr_lvu (f : Ctr → Ctr) (s : State) : (s.modCtr f).lvu = s.lvu := rfl
@[simp] theorem State.modCtr_exm (f : Ctr → Ctr) (s : State) : (s.modCtr f).exm = s.exm := rfl
@[simp] theorem State.modCtr_psc (f : Ctr → Ctr) (s : State) : (s.modCtr f).psc = s.psc := rfl
@[simp] theorem State.modCtr_aou (f : Ctr → Ctr) (s : State) : (s.modCtr f).aou = s.aou := rfl
@[simp] theorem State.modCtr_oq (f : Ctr → Ctr) (s : State) : (s.modCtr f).oq = s.oq := rfl
@[simp] theorem State.modCtr_inl (f : Ctr → Ctr) (s : State) : (s.modCtr f).inl = s.inl := rfl
@[simp] theorem State.modCtr_scp (f : Ctr → Ctr) (s : State) : (s.modCtr f).scp = s.scp := rfl
@[simp] theorem State.modCtr_pending (f : Ctr → Ctr) (s : State) : (s.modCtr f).pending = s.pending := rfl

@[simp] theorem State.modAdu_timeMs (f : Adu → Adu) (s : State) : (s.modAdu f).timeMs = s.timeMs := rfl
@[simp] theorem State.modAdu_tenth (f : Adu → Adu) (s : State) : (s.modAdu f).tenth = s.tenth := rfl
@[simp] theorem State.modAdu_wireReads (f : Adu → Adu) (s : State) : (s.modAdu f).wireReads = s.wireReads := rfl
@[simp] theorem State.modAdu_pins (f : Adu → Adu) (s : State) : (s.modAdu f).pins = s.pins := rfl
@[simp] theorem State.modAdu_params (f : Adu → Adu) (s : State) : (s.modAdu f).params = s.params := rfl
@[simp] theorem State.modAdu_ctr (f : Adu → Adu) (s : State) : (s.modAdu f).ctr = s.ctr := rfl
@[simp] theorem State.modAdu_adu (f : Adu → Adu) (s : State) : (s.modAdu f).adu = f s.adu := rfl
@[simp] theorem State.modAdu_rps (f : Adu → Adu) (s : State) : (s.modAdu f).rps = s.rps := rfl
@[simp] theorem State.modAdu_fdu (f : Adu → Adu) (s : State) : (s.modAdu f).fdu = s.fdu := rfl
@[simp] theorem State.modAdu_hcu (f : Adu → Adu) (s : State) : (s.modAdu f).hcu = s.hcu := rfl
@[simp] theorem State.modAdu_wpu (f : Adu → Adu) (s : State) : (s.modAdu f).wpu = s.wpu := rfl
@[simp] theorem State.modAdu_lvu (f : Adu → Adu) (s : State) : (s.modAdu f).lvu = s.lvu := rfl
@[simp] theorem State.modAdu_exm (f : Adu → Adu) (s : State) : (s.modAdu f).exm = s.exm := rfl
@[simp] theorem State.modAdu_psc (f : Adu → Adu) (s : State) : (s.modAdu f).psc = s.psc := rfl
@[simp] theorem State.modAdu_aou (f : Adu → Adu) (s : State) : (s.modAdu f).aou = s.aou := rfl
@[simp] theorem State.modAdu_oq (f : Adu → Adu) (s : State) : (s.modAdu f).oq = s.oq := rfl
@[simp] theorem State.modAdu_inl (f : Adu → Adu) (s : State) : (s.modAdu f).inl = s.inl := rfl
@[simp] theorem State.modAdu_scp (f : Adu → Adu) (s : State) : (s.modAdu f).scp = s.scp := rfl
@[simp] theorem State.modAdu_pending (f : Adu → Adu) (s : State) : (s.modAdu f).pending = s.pending := rfl

@[simp] theorem State.modRps_timeMs (f : Rps → Rps) (s : State) : (s.modRps f).timeMs = s.timeMs := rfl
@[simp] theorem State.modRps_tenth (f : Rps → Rps) (s : State) : (s.modRps f).tenth = s.tenth := rfl
@[simp] theorem State.modRps_wireReads (f : Rps → Rps) (s : State) : (s.modRps f).wireReads = s.wireReads := rfl
@[simp] theorem State.modRps_pins (f : Rps → Rps) (s : State) : (s.modRps f).pins = s.pins := rfl
@[simp] theorem State.modRps_params (f : Rps → Rps) (s : State) : (s.modRps f).params = s.params := rfl
@[simp] theorem State.modRps_ctr (f : Rps → Rps) (s : State) : (s.modRps f).ctr = s.ctr := rfl
@[simp] theorem State.modRps_adu (f : Rps → Rps) (s : State) : (s.modRps f).adu = s.adu := rfl
@[simp] theorem State.modRps_rps (f : Rps → Rps) (s : State) : (s.modRps f).rps = f s.rps := rfl
@[simp] theorem State.modRps_fdu (f : Rps → Rps) (s : State) : (s.modRps f).fdu = s.fdu := rfl
@[simp] theorem State.modRps_hcu (f : Rps → Rps) (s : State) : (s.modRps f).hcu = s.hcu := rfl
@[simp] theorem State.modRps_wpu (f : Rps → Rps) (s : State) : (s.modRps f).wpu = s.wpu := rfl
@[simp] theorem State.modRps_lvu (f : Rps → Rps) (s : State) : (s.modRps f).lvu = s.lvu := rfl
@[simp] theorem State.modRps_exm (f : Rps → Rps) (s : State) : (s.modRps f).exm = s.exm := rfl
@[simp] theorem State.modRps_psc (f : Rps → Rps) (s : State) : (s.modRps f).psc = s.psc := rfl
@[simp] theorem State.modRps_aou (f : Rps → Rps) (s : State) : (s.modRps f).aou = s.aou := rfl
@[simp] theorem State.modRps_oq (f : Rps → Rps) (s : State) : (s.modRps f).oq = s.oq := rfl
@[simp] theorem State.modRps_inl (f : Rps → Rps) (s : State) : (s.modRps f).inl = s.inl := rfl
@[simp] theorem State.modRps_scp (f : Rps → Rps) (s : State) : (s.modRps f).scp = s.scp := rfl
@[simp] theorem State.modRps_pending (f : Rps → Rps) (s : State) : (s.modRps f).pending = s.pending := rfl

@[simp] theorem State.modFdu_timeMs (f : Fdu → Fdu) (s : State) : (s.modFdu f).timeMs = s.timeMs := rfl
@[simp] theorem State.modFdu_tenth (f : Fdu → Fdu) (s : State) : (s.modFdu f).tenth = s.tenth := rfl
@[simp] theorem State.modFdu_wireReads (f : Fdu → Fdu) (s : State) : (s.modFdu f).wireReads = s.wireReads := rfl
@[simp] theorem State.modFdu_pins (f : Fdu → Fdu) (s : State) : (s.modFdu f).pins = s.pins := rfl
@[simp] theorem State.modFdu_params (f : Fdu → Fdu) (s : State) : (s.modFdu f).params = s.params := rfl
@[simp] theorem State.modFdu_ctr (f : Fdu → Fdu) (s : State) : (s.modFdu f).ctr = s.ctr := rfl
@[simp] theorem State.modFdu_adu (f : Fdu → Fdu) (s : State) : (s.modFdu f).adu = s.adu := rfl
@[simp] theorem State.modFdu_rps (f : Fdu → Fdu) (s : State) : (s.modFdu f).rps = s.rps := rfl
@[simp] theorem State.modFdu_fdu (f : Fdu → Fdu) (s : State) : (s.modFdu f).fdu = f s.fdu := rfl
@[simp] theorem State.modFdu_hcu (f : Fdu → Fdu) (s : State) : (s.modFdu f).hcu = s.hcu := rfl
@[simp] theorem State.modFdu_wpu (f : Fdu → Fdu) (s : State) : (s.modFdu f).wpu = s.wpu := rfl
@[simp] theorem State.modFdu_lvu (f : Fdu → Fdu) (s : State) : (s.modFdu f).lvu = s.lvu := rfl
@[simp] theorem State.modFdu_exm (f : Fdu → Fdu) (s : State) : (s.modFdu f).exm = s.exm := rfl
@[simp] theorem State.modFdu_psc (f : Fdu → Fdu) (s : State) : (s.modFdu f).psc = s.psc := rfl
@[simp] theorem State.modFdu_aou (f : Fdu → Fdu) (s : State) : (s.modFdu f).aou = s.aou := rfl
@[simp] theorem State.modFdu_oq (f : Fdu → Fdu) (s : State) : (s.modFdu f).oq = s.oq := rfl
@[simp] theorem State.modFdu_inl (f : Fdu → Fdu) (s : State) : (s.modFdu f).inl = s.inl := rfl
@[simp] theorem State.modFdu_scp (f : Fdu → Fdu) (s : State) : (s.modFdu f).scp = s.scp := rfl
@[simp] theorem State.modFdu_pending (f : Fdu → Fdu) (s : State) : (s.modFdu f).pending = s.pending := rfl

@[simp] theorem State.modHcu_timeMs (f : Hcu → Hcu) (s : State) : (s.modHcu f).timeMs = s.timeMs := rfl
@[simp] theorem State.modHcu_tenth (f : Hcu → Hcu) (s : State) : (s.modHcu f).tenth = s.tenth := rfl
@[simp] theorem State.modHcu_wireReads (f : Hcu → Hcu) (s : State) : (s.modHcu f).wireReads = s.wireReads := rfl
@[simp] theorem State.modHcu_pins (f : Hcu → Hcu) (s : State) : (s.modHcu f).pins = s.pins := rfl
@[simp] theorem State.modHcu_params (f : Hcu → Hcu) (s : State) : (s.modHcu f).params = s.params := rfl
@[simp] theorem State.modHcu_ctr (f : Hcu → Hcu) (s : State) : (s.modHcu f).ctr = s.ctr := rfl
@[simp] theorem State.modHcu_adu (f : Hcu → Hcu) (s : State) : (s.modHcu f).adu = s.adu := rfl
@[simp] theorem State.modHcu_rps (f : Hcu → Hcu) (s : State) : (s.modHcu f).rps = s.rps := rfl
@[simp] theorem State.modHcu_fdu (f : Hcu → Hcu) (s : State) : (s.modHcu f).fdu = s.fdu := rfl
@[simp] theorem State.modHcu_hcu (f : Hcu → Hcu) (s : State) : (s.modHcu f).hcu = f s.hcu := rfl
@[simp] theorem State.modHcu_wpu (f : Hcu → Hcu) (s : State) : (s.modHcu f).wpu = s.wpu := rfl
@[simp] theorem State.modHcu_lvu (f : Hcu → Hcu) (s : State) : (s.modHcu f).lvu = s.lvu := rfl
@[simp] theorem State.modHcu_exm (f : Hcu → Hcu) (s : State) : (s.modHcu f).exm = s.exm := rfl
@[simp] theorem State.modHcu_psc (f : Hcu → Hcu) (s : State) : (s.modHcu f).psc = s.psc := rfl
@[simp] theorem State.modHcu_aou (f : Hcu → Hcu) (s : State) : (s.modHcu f).aou = s.aou := rfl
@[simp] theorem State.modHcu_oq (f : Hcu → Hcu) (s : State) : (s.modHcu f).oq = s.oq := rfl
@[simp] theorem State.modHcu_inl (f : Hcu → Hcu) (s : State) : (s.modHcu f).inl = s.inl := rfl
@[simp] theorem State.modHcu_scp (f : Hcu → Hcu) (s : State) : (s.modHcu f).scp = s.scp := rfl
@[simp] theorem State.modHcu_pending (f : Hcu → Hcu) (s : State) : (s.modHcu f).pending = s.pending := rfl

@[simp] theorem State.modWpu_timeMs (f : Wpu → Wpu) (s : State) : (s.modWpu f).timeMs = s.timeMs := rfl
@[simp] theorem State.modWpu_tenth (f : Wpu → Wpu) (s : State) : (s.modWpu f).tenth = s.tenth := rfl
@[simp] theorem State.modWpu_wireReads (f : Wpu → Wpu) (s : State) : (s.modWpu f).wireReads = s.wireReads := rfl
@[simp] theorem State.modWpu_pins (f : Wpu → Wpu) (s : State) : (s.modWpu f).pins = s.pins := rfl
@[simp] theorem State.modWpu_params (f : Wpu → Wpu) (s : State) : (s.modWpu f).params = s.params := rfl
@[simp] theorem State.modWpu_ctr (f : Wpu → Wpu) (s : State) : (s.modWpu f).ctr = s.ctr := rfl
@[simp] theorem State.modWpu_adu (f : Wpu → Wpu) (s : State) : (s.modWpu f).adu = s.adu := rfl
@[simp] theorem State.modWpu_rps (f : Wpu → Wpu) (s : State) : (s.modWpu f).rps = s.rps := rfl
@[simp] theorem State.modWpu_fdu (f : Wpu → Wpu) (s : State) : (s.modWpu f).fdu = s.fdu := rfl
@[simp] theorem State.modWpu_hcu (f : Wpu → Wpu) (s : State) : (s.modWpu f).hcu = s.hcu := rfl
@[simp] theorem State.modWpu_wpu (f : Wpu → Wpu) (s : State) : (s.modWpu f).wpu = f s.wpu := rfl
@[simp] theorem State.modWpu_lvu (f : Wpu → Wpu) (s : State) : (s.modWpu f).lvu = s.lvu := rfl
@[simp] theorem State.modWpu_exm (f : Wpu → Wpu) (s : State) : (s.modWpu f).exm = s.exm := rfl
@[simp] theorem State.modWpu_psc (f : Wpu → Wpu) (s : State) : (s.modWpu f).psc = s.psc := rfl
@[simp] theorem State.modWpu_aou (f : Wpu → Wpu) (s : State) : (s.modWpu f).aou = s.aou := rfl
@[simp] theorem State.modWpu_oq (f : Wpu → Wpu) (s : State) : (s.modWpu f).oq = s.oq := rfl
@[simp] theorem State.modWpu_inl (f : Wpu → Wpu) (s : State) : (s.modWpu f).inl = s.inl := rfl
@[simp] theorem State.modWpu_scp (f : Wpu → Wpu) (s : State) : (s.modWpu f).scp = s.scp := rfl
@[simp] theorem State.modWpu_pending (f : Wpu → Wpu) (s : State) : (s.modWpu f).pending = s.pending := rfl

@[simp] theorem State.modLvu_timeMs (f : Lvu → Lvu) (s : State) : (s.modLvu f).timeMs = s.timeMs := rfl
@[simp] theorem State.modLvu_tenth (f : Lvu → Lvu) (s : State) : (s.modLvu f).tenth = s.tenth := rfl
@[simp] theorem State.modLvu_wireReads (f : Lvu → Lvu) (s : State) : (s.modLvu f).wireReads = s.wireReads := rfl
@[simp] theorem State.modLvu_pins (f : Lvu → Lvu) (s : State) : (s.modLvu f).pins = s.pins := rfl
@[simp] theorem State.modLvu_params (f : Lvu → Lvu) (s : State) : (s.modLvu f).params = s.params := rfl
@[simp] theorem State.modLvu_ctr (f : Lvu → Lvu) (s : State) : (s.modLvu f).ctr = s.ctr := rfl
@[simp] theorem State.modLvu_adu (f : Lvu → Lvu) (s : State) : (s.modLvu f).adu = s.adu := rfl
@[simp] theorem State.modLvu_rps (f : Lvu → Lvu) (s : State) : (s.modLvu f).rps = s.rps := rfl
@[simp] theorem State.modLvu_fdu (f : Lvu → Lvu) (s : State) : (s.modLvu f).fdu = s.fdu := rfl
@[simp] theorem State.modLvu_hcu (f : Lvu → Lvu) (s : State) : (s.modLvu f).hcu = s.hcu := rfl
@[simp] theorem State.modLvu_wpu (f : Lvu → Lvu) (s : State) : (s.modLvu f).wpu = s.wpu := rfl
@[simp] theorem State.modLvu_lvu (f : Lvu → Lvu) (s : State) : (s.modLvu f).lvu = f s.lvu := rfl
@[simp] theorem State.modLvu_exm (f : Lvu → Lvu) (s : State) : (s.modLvu f).exm = s.exm := rfl
@[simp] theorem State.modLvu_psc (f : Lvu → Lvu) (s : State) : (s.modLvu f).psc = s.psc := rfl
@[simp] theorem State.modLvu_aou (f : Lvu → Lvu) (s : State) : (s.modLvu f).aou = s.aou := rfl
@[simp] theorem State.modLvu_oq (f : Lvu → Lvu) (s : State) : (s.modLvu f).oq = s.oq := rfl
@[simp] theorem State.modLvu_inl (f : Lvu → Lvu) (s : State) : (s.modLvu f).inl = s.inl := rfl
@[simp] theorem State.modLvu_scp (f : Lvu → Lvu) (s : State) : (s.modLvu f).scp = s.scp := rfl
@[simp] theorem State.modLvu_pending (f : Lvu → Lvu) (s : State) : (s.modLvu f).pending = s.pending := rfl

@[simp] theorem State.modExm_timeMs (f : Exm → Exm) (s : State) : (s.modExm f).timeMs = s.timeMs := rfl
@[simp] theorem State.modExm_tenth (f : Exm → Exm) (s : State) : (s.modExm f).tenth = s.tenth := rfl
@[simp] theorem State.modExm_wireReads (f : Exm → Exm) (s : State) : (s.modExm f).wireReads = s.wireReads := rfl
@[simp] theorem State.modExm_pins (f : Exm → Exm) (s : State) : (s.modExm f).pins = s.pins := rfl
@[simp] theorem State.modExm_params (f : Exm → Exm) (s : State) : (s.modExm f).params = s.params := rfl
@[simp] theorem State.modExm_ctr (f : Exm → Exm) (s : State) : (s.modExm f).ctr = s.ctr := rfl
@[simp] theorem State.modExm_adu (f : Exm → Exm) (s : State) : (s.modExm f).adu = s.adu := rfl
@[simp] theorem State.modExm_rps (f : Exm → Exm) (s : State) : (s.modExm f).rps = s.rps := rfl
@[simp] theorem State.modExm_fdu (f : Exm → Exm) (s : State) : (s.modExm f).fdu = s.fdu := rfl
@[simp] theorem State.modExm_hcu (f : Exm → Exm) (s : State) : (s.modExm f).hcu = s.hcu := rfl
@[simp] theorem State.modExm_wpu (f : Exm → Exm) (s : State) : (s.modExm f).wpu = s.wpu := rfl
@[simp] theorem State.modExm_lvu (f : Exm → Exm) (s : State) : (s.modExm f).lvu = s.lvu := rfl
@[simp] theorem State.modExm_exm (f : Exm → Exm) (s : State) : (s.modExm f).exm = f s.exm := rfl
@[simp] theorem State.modExm_psc (f : Exm → Exm) (s : State) : (s.modExm f).psc = s.psc := rfl
@[simp] theorem State.modExm_aou (f : Exm → Exm) (s : State) : (s.modExm f).aou = s.aou := rfl
@[simp] theorem State.modExm_oq (f : Exm → Exm) (s : State) : (s.modExm f).oq = s.oq := rfl
@[simp] theorem State.modExm_inl (f : Exm → Exm) (s : State) : (s.modExm f).inl = s.inl := rfl
@[simp] theorem State.modExm_scp (f : Exm → Exm) (s : State) : (s.modExm f).scp = s.scp := rfl
@[simp] theorem State.modExm_pending (f : Exm → Exm) (s : State) : (s.modExm f).pending = s.pending := rfl

@[simp] theorem State.modPsc_timeMs (f : Psc → Psc) (s : State) : (s.modPsc f).timeMs = s.timeMs := rfl
@[simp] theorem State.modPsc_tenth (f : Psc → Psc) (s : State) : (s.modPsc f).tenth = s.tenth := rfl
@[simp] theorem State.modPsc_wireReads (f : Psc → Psc) (s : State) : (s.modPsc f).wireReads = s.wireReads := rfl
@[simp] theorem State.modPsc_pins (f : Psc → Psc) (s : State) : (s.modPsc f).pins = s.pins := rfl
@[simp] theorem State.modPsc_params (f : Psc → Psc) (s : State) : (s.modPsc f).params = s.params := rfl
@[simp] theorem State.modPsc_ctr (f : Psc → Psc) (s : State) : (s.modPsc f).ctr = s.ctr := rfl
@[simp] theorem State.modPsc_adu (f : Psc → Psc) (s : State) : (s.modPsc f).adu = s.adu := rfl
@[simp] theorem State.modPsc_rps (f : Psc → Psc) (s : State) : (s.modPsc f).rps = s.rps := rfl
@[simp] theorem State.modPsc_fdu (f : Psc → Psc) (s : State) : (s.modPsc f).fdu = s.fdu := rfl
@[simp] theorem State.modPsc_hcu (f : Psc → Psc) (s : State) : (s.modPsc f).hcu = s.hcu := rfl
@[simp] theorem State.modPsc_wpu (f : Psc → Psc) (s : State) : (s.modPsc f).wpu = s.wpu := rfl
@[simp] theorem State.modPsc_lvu (f : Psc → Psc) (s : State) : (s.modPsc f).lvu = s.lvu := rfl
@[simp] theorem State.modPsc_exm (f : Psc → Psc) (s : State) : (s.modPsc f).exm = s.exm := rfl
@[simp] theorem State.modPsc_psc (f : Psc → Psc) (s : State) : (s.modPsc f).psc = f s.psc := rfl
@[simp] theorem State.modPsc_aou (f : Psc → Psc) (s : State) : (s.modPsc f).aou = s.aou := rfl
@[simp] theorem State.modPsc_oq (f : Psc → Psc) (s : State) : (s.modPsc f).oq = s.oq := rfl
@[simp] theorem State.modPsc_inl (f : Psc → Psc) (s : State) : (s.modPsc f).inl = s.inl := rfl
@[simp] theorem State.modPsc_scp (f : Psc → Psc) (s : State) : (s.modPsc f).scp = s.scp := rfl
@[simp] theorem State.modPsc_pending (f : Psc → Psc) (s : State) : (s.modPsc f).pending = s.pending := rfl

@[simp] theorem State.modAou_timeMs (f : Aou → Aou) (s : State) : (s.modAou f).timeMs = s.timeMs := rfl
@[simp] theorem State.modAou_tenth (f : Aou → Aou) (s : State) : (s.modAou f).tenth = s.tenth := rfl
@[simp] theorem State.modAou_wireReads (f : Aou → Aou) (s : State) : (s.modAou f).wireReads = s.wireReads := rfl
@[simp] theorem State.modAou_pins (f : Aou → Aou) (s : State) : (s.modAou f).pins = s.pins := rfl
@[simp] theorem State.modAou_params (f : Aou → Aou) (s : State) : (s.modAou f).params = s.params := rfl
@[simp] theorem State.modAou_ctr (f : Aou → Aou) (s : State) : (s.modAou f).ctr = s.ctr := rfl
@[simp] theorem State.modAou_adu (f : Aou → Aou) (s : State) : (s.modAou f).adu = s.adu := rfl
@[simp] theorem State.modAou_rps (f : Aou → Aou) (s : State) : (s.modAou f).rps = s.rps := rfl
@[simp] theorem State.modAou_fdu (f : Aou → Aou) (s : State) : (s.modAou f).fdu = s.fdu := rfl
@[simp] theorem State.modAou_hcu (f : Aou → Aou) (s : State) : (s.modAou f).hcu = s.hcu := rfl
@[simp] theorem State.modAou_wpu (f : Aou → Aou) (s : State) : (s.modAou f).wpu = s.wpu := rfl
@[simp] theorem State.modAou_lvu (f : Aou → Aou) (s : State) : (s.modAou f).lvu = s.lvu := rfl
@[simp] theorem State.modAou_exm (f : Aou → Aou) (s : State) : (s.modAou f).exm = s.exm := rfl
@[simp] theorem State.modAou_psc (f : Aou → Aou) (s : State) : (s.modAou f).psc = s.psc := rfl
@[simp] theorem State.modAou_aou (f : Aou → Aou) (s : State) : (s.modAou f).aou = f s.aou := rfl
@[simp] theorem State.modAou_oq (f : Aou → Aou) (s : State) : (s.modAou f).oq = s.oq := rfl
@[simp] theorem State.modAou_inl (f : Aou → Aou) (s : State) : (s.modAou f).inl = s.inl := rfl
@[simp] theorem State.modAou_scp (f : Aou → Aou) (s : State) : (s.modAou f).scp = s.scp := rfl
@[simp] theorem State.modAou_pending (f : Aou → Aou) (s : State) : (s.modAou f).pending = s.pending := rfl

@[simp] theorem State.modOq_timeMs (f : Oq → Oq) (s : State) : (s.modOq f).timeMs = s.timeMs := rfl
@[simp] theorem State.modOq_tenth (f : Oq → Oq) (s : State) : (s.modOq f).tenth = s.tenth := rfl
@[simp] theorem State.modOq_wireReads (f : Oq → Oq) (s : State) : (s.modOq f).wireReads = s.wireReads := rfl
@[simp] theorem State.modOq_pins (f : Oq → Oq) (s : State) : (s.modOq f).pins = s.pins := rfl
@[simp] theorem State.modOq_params (f : Oq → Oq) (s : State) : (s.modOq f).params = s.params := rfl
@[simp] theorem State.modOq_ctr (f : Oq → Oq) (s : State) : (s.modOq f).ctr = s.ctr := rfl
@[simp] theorem State.modOq_adu (f : Oq → Oq) (s : State) : (s.modOq f).adu = s.adu := rfl
@[simp] theorem State.modOq_rps (f : Oq → Oq) (s : State) : (s.modOq f).rps = s.rps := rfl
@[simp] theorem State.modOq_fdu (f : Oq → Oq) (s : State) : (s.modOq f).fdu = s.fdu := rfl
@[simp] theorem State.modOq_hcu (f : Oq → Oq) (s : State) : (s.modOq f).hcu = s.hcu := rfl
@[simp] theorem State.modOq_wpu (f : Oq → Oq) (s : State) : (s.modOq f).wpu = s.wpu := rfl
@[simp] theorem State.modOq_lvu (f : Oq → Oq) (s : State) : (s.modOq f).lvu = s.lvu := rfl
@[simp] theorem State.modOq_exm (f : Oq → Oq) (s : State) : (s.modOq f).exm = s.exm := rfl
@[simp] theorem State.modOq_psc (f : Oq → Oq) (s : State) : (s.modOq f).psc = s.psc := rfl
@[simp] theorem State.modOq_aou (f : Oq → Oq) (s : State) : (s.modOq f).aou = s.aou := rfl
@[simp] theorem State.modOq_oq (f : Oq → Oq) (s : State) : (s.modOq f).oq = f s.oq := rfl
@[simp] theorem State.modOq_inl (f : Oq → Oq) (s : State) : (s.modOq f).inl = s.inl := rfl
@[simp] theorem State.modOq_scp (f : Oq → Oq) (s : State) : (s.modOq f).scp = s.scp := rfl
@[simp] theorem State.modOq_pending (f : Oq → Oq) (s : State) : (s.modOq f).pending = s.pending := rfl

@[simp] theorem State.modInl_timeMs (f : Inl → Inl) (s : State) : (s.modInl f).timeMs = s.timeMs := rfl
@[simp] theorem State.modInl_tenth (f : Inl → Inl) (s : State) : (s.modInl f).tenth = s.tenth := rfl
@[simp] theorem State.modInl_wireReads (f : Inl → Inl) (s : State) : (s.modInl f).wireReads = s.wireReads := rfl
@[simp] theorem State.modInl_pins (f : Inl → Inl) (s : State) : (s.modInl f).pins = s.pins := rfl
@[simp] theorem State.modInl_params (f : Inl → Inl) (s : State) : (s.modInl f).params = s.params := rfl
@[simp] theorem State.modInl_ctr (f : Inl → Inl) (s : State) : (s.modInl f).ctr = s.ctr := rfl
@[simp] theorem State.modInl_adu (f : Inl → Inl) (s : State) : (s.modInl f).adu = s.adu := rfl
@[simp] theorem State.modInl_rps (f : Inl → Inl) (s : State) : (s.modInl f).rps = s.rps := rfl
@[simp] theorem State.modInl_fdu (f : Inl → Inl) (s : State) : (s.modInl f).fdu = s.fdu := rfl
@[simp] theorem State.modInl_hcu (f : Inl → Inl) (s : State) : (s.modInl f).hcu = s.hcu := rfl
@[simp] theorem State.modInl_wpu (f : Inl → Inl) (s : State) : (s.modInl f).wpu = s.wpu := rfl
@[simp] theorem State.modInl_lvu (f : Inl → Inl) (s : State) : (s.modInl f).lvu = s.lvu := rfl
@[simp] theorem State.modInl_exm (f : Inl → Inl) (s : State) : (s.modInl f).exm = s.exm := rfl
@[simp] theorem State.modInl_psc (f : Inl → Inl) (s : State) : (s.modInl f).psc = s.psc := rfl
@[simp] theorem State.modInl_aou (f : Inl → Inl) (s : State) : (s.modInl f).aou = s.aou := rfl
@[simp] theorem State.modInl_oq (f : Inl → Inl) (s : State) : (s.modInl f).oq = s.oq := rfl
@[simp] theorem State.modInl_inl (f : Inl → Inl) (s : State) : (s.modInl f).inl = f s.inl := rfl
@[simp] theorem State.modInl_scp (f : Inl → Inl) (s : State) : (s.modInl f).scp = s.scp := rfl
@[simp] theorem State.modInl_pending (f : Inl → Inl) (s : State) : (s.modInl f).pending = s.pending := rfl

@[simp] theorem State.modScp_timeMs (f : Scp → Scp) (s : State) : (s.modScp f).timeMs = s.timeMs := rfl
@[simp] theorem State.modScp_tenth (f : Scp → Scp) (s : State) : (s.modScp f).tenth = s.tenth := rfl
@[simp] theorem State.modScp_wireReads (f : Scp → Scp) (s : State) : (s.modScp f).wireReads = s.wireReads := rfl
@[simp] theorem State.modScp_pins (f : Scp → Scp) (s : State) : (s.modScp f).pins = s.pins := rfl
@[simp] theorem State.modScp_params (f : Scp → Scp) (s : State) : (s.modScp f).params = s.params := rfl
@[simp] theorem State.modScp_ctr (f : Scp → Scp) (s : State) : (s.modScp f).ctr = s.ctr := rfl
@[simp] theorem State.modScp_adu (f : Scp → Scp) (s : State) : (s.modScp f).adu = s.adu := rfl
@[simp] theorem State.modScp_rps (f : Scp → Scp) (s : State) : (s.modScp f).rps = s.rps := rfl
@[simp] theorem State.modScp_fdu (f : Scp → Scp) (s : State) : (s.modScp f).fdu = s.fdu := rfl
@[simp] theorem State.modScp_hcu (f : Scp → Scp) (s : State) : (s.modScp f).hcu = s.hcu := rfl
@[simp] theorem State.modScp_wpu (f : Scp → Scp) (s : State) : (s.modScp f).wpu = s.wpu := rfl
@[simp] theorem State.modScp_lvu (f : Scp → Scp) (s : State) : (s.modScp f).lvu = s.lvu := rfl
@[simp] theorem State.modScp_exm (f : Scp → Scp) (s : State) : (s.modScp f).exm = s.exm := rfl
@[simp] theorem State.modScp_psc (f : Scp → Scp) (s : State) : (s.modScp f).psc = s.psc := rfl
@[simp] theorem State.modScp_aou (f : Scp → Scp) (s : State) : (s.modScp f).aou = s.aou := rfl
@[simp] theorem State.modScp_oq (f : Scp → Scp) (s : State) : (s.modScp f).oq = s.oq := rfl
@[simp] theorem State.modScp_inl (f : Scp → Scp) (s : State) : (s.modScp f).inl = s.inl := rfl
@[simp] theorem State.modScp_scp (f : Scp → Scp) (s : State) : (s.modScp f).scp = f s.scp := rfl
@[simp] theorem State.modScp_pending (f : Scp → Scp) (s : State) : (s.modScp f).pending = s.pending := rfl

@[simp] theorem State.modParams_timeMs (f : Params → Params) (s : State) : (s.modParams f).timeMs = s.timeMs := rfl
@[simp] theorem State.modParams_tenth (f : Params → Params) (s : State) : (s.modParams f).tenth = s.tenth := rfl
@[simp] theorem State.modParams_wireReads (f : Params → Params) (s : State) : (s.modParams f).wireReads = s.wireReads := rfl
@[simp] theorem State.modParams_pins (f : Params → Params) (s : State) : (s.modParams f).pins = s.pins := rfl
@[simp] theorem State.modParams_params (f : Params → Params) (s : State) : (s.modParams f).params = f s.params := rfl
@[simp] theorem State.modParams_ctr (f : Params → Params) (s : State) : (s.modParams f).ctr = s.ctr := rfl
@[simp] theorem State.modParams_adu (f : Params → Params) (s : State) : (s.modParams f).adu = s.adu := rfl
@[simp] theorem State.modParams_rps (f : Params → Params) (s : State) : (s.modParams f).rps = s.rps := rfl
@[simp] theorem State.modParams_fdu (f : Params → Params) (s : State) : (s.modParams f).fdu = s.fdu := rfl
@[simp] theorem State.modParams_hcu (f : Params → Params) (s : State) : (s.modParams f).hcu = s.hcu := rfl
@[simp] theorem State.modParams_wpu (f : Params → Params) (s : State) : (s.modParams f).wpu = s.wpu := rfl
@[simp] theorem State.modParams_lvu (f : Params → Params) (s : State) : (s.modParams f).lvu = s.lvu := rfl
@[simp] theorem State.modParams_exm (f : Params → Params) (s : State) : (s.modParams f).exm = s.exm := rfl
@[simp] theorem State.modParams_psc (f : Params → Params) (s : State) : (s.modParams f).psc = s.psc := rfl
@[simp] theorem State.modParams_aou (f : Params → Params) (s : State) : (s.modParams f).aou = s.aou := rfl
@[simp] theorem State.modParams_oq (f : Params → Params) (s : State) : (s.modParams f).oq = s.oq := rfl
@[simp] theorem State.modParams_inl (f : Params → Params) (s : State) : (s.modParams f).inl = s.inl := rfl
@[simp] theorem State.modParams_scp (f : Params → Params) (s : State) : (s.modParams f).scp = s.scp := rfl
@[simp] theorem State.modParams_pending (f : Params → Params) (s : State) : (s.modParams f).pending = s.pending := rfl

@[simp] theorem State.modPins_timeMs (f : InputPins → InputPins) (s : State) : (s.modPins f).timeMs = s.timeMs := rfl
@[simp] theorem State.modPins_tenth (f : InputPins → InputPins) (s : State) : (s.modPins f).tenth = s.tenth := rfl
@[simp] theorem State.modPins_wireReads (f : InputPins → InputPins) (s : State) : (s.modPins f).wireReads = s.wireReads := rfl
@[simp] theorem State.modPins_pins (f : InputPins → InputPins) (s : State) : (s.modPins f).pins = f s.pins := rfl
@[simp] theorem State.modPins_params (f : InputPins → InputPins) (s : State) : (s.modPins f).params = s.params := rfl
@[simp] theorem State.modPins_ctr (f : InputPins → InputPins) (s : State) : (s.modPins f).ctr = s.ctr := rfl
@[simp] theorem State.modPins_adu (f : InputPins → InputPins) (s : State) : (s.modPins f).adu = s.adu := rfl
@[simp] theorem State.modPins_rps (f : InputPins → InputPins) (s : State) : (s.modPins f).rps = s.rps := rfl
@[simp] theorem State.modPins_fdu (f : InputPins → InputPins) (s : State) : (s.modPins f).fdu = s.fdu := rfl
@[simp] theorem State.modPins_hcu (f : InputPins → InputPins) (s : State) : (s.modPins f).hcu = s.hcu := rfl
@[simp] theorem State.modPins_wpu (f : InputPins → InputPins) (s : State) : (s.modPins f).wpu = s.wpu := rfl
@[simp] theorem State.modPins_lvu (f : InputPins → InputPins) (s : State) : (s.modPins f).lvu = s.lvu := rfl
@[simp] theorem State.modPins_exm (f : InputPins → InputPins) (s : State) : (s.modPins f).exm = s.exm := rfl
@[simp] theorem State.modPins_psc (f : InputPins → InputPins) (s : State) : (s.modPins f).psc = s.psc := rfl
@[simp] theorem State.modPins_aou (f : InputPins → InputPins) (s : State) : (s.modPins f).aou = s.aou := rfl
@[simp] theorem State.modPins_oq (f : InputPins → InputPins) (s : State) : (s.modPins f).oq = s.oq := rfl
@[simp] theorem State.modPins_inl (f : InputPins → InputPins) (s : State) : (s.modPins f).inl = s.inl := rfl
@[simp] theorem State.modPins_scp (f : InputPins → InputPins) (s : State) : (s.modPins f).scp = s.scp := rfl
@[simp] theorem State.modPins_pending (f : InputPins → InputPins) (s : State) : (s.modPins f).pending = s.pending := rfl

/-! ## One item of a block changed -/

@[simp] theorem State.modCh_timeMs (c : Channel) (f : Heater → Heater) (s : State) : (s.modCh c f).timeMs = s.timeMs := rfl
@[simp] theorem State.modCh_tenth (c : Channel) (f : Heater → Heater) (s : State) : (s.modCh c f).tenth = s.tenth := rfl
@[simp] theorem State.modCh_wireReads (c : Channel) (f : Heater → Heater) (s : State) : (s.modCh c f).wireReads = s.wireReads := rfl
@[simp] theorem State.modCh_pins (c : Channel) (f : Heater → Heater) (s : State) : (s.modCh c f).pins = s.pins := rfl
@[simp] theorem State.modCh_params (c : Channel) (f : Heater → Heater) (s : State) : (s.modCh c f).params = s.params := rfl
@[simp] theorem State.modCh_ctr (c : Channel) (f : Heater → Heater) (s : State) : (s.modCh c f).ctr = s.ctr := rfl
@[simp] theorem State.modCh_adu (c : Channel) (f : Heater → Heater) (s : State) : (s.modCh c f).adu = s.adu := rfl
@[simp] theorem State.modCh_rps (c : Channel) (f : Heater → Heater) (s : State) : (s.modCh c f).rps = s.rps := rfl
@[simp] theorem State.modCh_fdu (c : Channel) (f : Heater → Heater) (s : State) : (s.modCh c f).fdu = s.fdu := rfl
@[simp] theorem State.modCh_wpu (c : Channel) (f : Heater → Heater) (s : State) : (s.modCh c f).wpu = s.wpu := rfl
@[simp] theorem State.modCh_lvu (c : Channel) (f : Heater → Heater) (s : State) : (s.modCh c f).lvu = s.lvu := rfl
@[simp] theorem State.modCh_exm (c : Channel) (f : Heater → Heater) (s : State) : (s.modCh c f).exm = s.exm := rfl
@[simp] theorem State.modCh_psc (c : Channel) (f : Heater → Heater) (s : State) : (s.modCh c f).psc = s.psc := rfl
@[simp] theorem State.modCh_aou (c : Channel) (f : Heater → Heater) (s : State) : (s.modCh c f).aou = s.aou := rfl
@[simp] theorem State.modCh_oq (c : Channel) (f : Heater → Heater) (s : State) : (s.modCh c f).oq = s.oq := rfl
@[simp] theorem State.modCh_inl (c : Channel) (f : Heater → Heater) (s : State) : (s.modCh c f).inl = s.inl := rfl
@[simp] theorem State.modCh_scp (c : Channel) (f : Heater → Heater) (s : State) : (s.modCh c f).scp = s.scp := rfl
@[simp] theorem State.modCh_pending (c : Channel) (f : Heater → Heater) (s : State) : (s.modCh c f).pending = s.pending := rfl

@[simp] theorem State.modPump_timeMs (p : Pump) (f : PumpState → PumpState) (s : State) : (s.modPump p f).timeMs = s.timeMs := rfl
@[simp] theorem State.modPump_tenth (p : Pump) (f : PumpState → PumpState) (s : State) : (s.modPump p f).tenth = s.tenth := rfl
@[simp] theorem State.modPump_wireReads (p : Pump) (f : PumpState → PumpState) (s : State) : (s.modPump p f).wireReads = s.wireReads := rfl
@[simp] theorem State.modPump_pins (p : Pump) (f : PumpState → PumpState) (s : State) : (s.modPump p f).pins = s.pins := rfl
@[simp] theorem State.modPump_params (p : Pump) (f : PumpState → PumpState) (s : State) : (s.modPump p f).params = s.params := rfl
@[simp] theorem State.modPump_ctr (p : Pump) (f : PumpState → PumpState) (s : State) : (s.modPump p f).ctr = s.ctr := rfl
@[simp] theorem State.modPump_adu (p : Pump) (f : PumpState → PumpState) (s : State) : (s.modPump p f).adu = s.adu := rfl
@[simp] theorem State.modPump_rps (p : Pump) (f : PumpState → PumpState) (s : State) : (s.modPump p f).rps = s.rps := rfl
@[simp] theorem State.modPump_fdu (p : Pump) (f : PumpState → PumpState) (s : State) : (s.modPump p f).fdu = s.fdu := rfl
@[simp] theorem State.modPump_hcu (p : Pump) (f : PumpState → PumpState) (s : State) : (s.modPump p f).hcu = s.hcu := rfl
@[simp] theorem State.modPump_lvu (p : Pump) (f : PumpState → PumpState) (s : State) : (s.modPump p f).lvu = s.lvu := rfl
@[simp] theorem State.modPump_exm (p : Pump) (f : PumpState → PumpState) (s : State) : (s.modPump p f).exm = s.exm := rfl
@[simp] theorem State.modPump_psc (p : Pump) (f : PumpState → PumpState) (s : State) : (s.modPump p f).psc = s.psc := rfl
@[simp] theorem State.modPump_aou (p : Pump) (f : PumpState → PumpState) (s : State) : (s.modPump p f).aou = s.aou := rfl
@[simp] theorem State.modPump_oq (p : Pump) (f : PumpState → PumpState) (s : State) : (s.modPump p f).oq = s.oq := rfl
@[simp] theorem State.modPump_inl (p : Pump) (f : PumpState → PumpState) (s : State) : (s.modPump p f).inl = s.inl := rfl
@[simp] theorem State.modPump_scp (p : Pump) (f : PumpState → PumpState) (s : State) : (s.modPump p f).scp = s.scp := rfl
@[simp] theorem State.modPump_pending (p : Pump) (f : PumpState → PumpState) (s : State) : (s.modPump p f).pending = s.pending := rfl

@[simp] theorem State.modHood_timeMs (h : Hood) (f : HoodState → HoodState) (s : State) : (s.modHood h f).timeMs = s.timeMs := rfl
@[simp] theorem State.modHood_tenth (h : Hood) (f : HoodState → HoodState) (s : State) : (s.modHood h f).tenth = s.tenth := rfl
@[simp] theorem State.modHood_wireReads (h : Hood) (f : HoodState → HoodState) (s : State) : (s.modHood h f).wireReads = s.wireReads := rfl
@[simp] theorem State.modHood_pins (h : Hood) (f : HoodState → HoodState) (s : State) : (s.modHood h f).pins = s.pins := rfl
@[simp] theorem State.modHood_params (h : Hood) (f : HoodState → HoodState) (s : State) : (s.modHood h f).params = s.params := rfl
@[simp] theorem State.modHood_ctr (h : Hood) (f : HoodState → HoodState) (s : State) : (s.modHood h f).ctr = s.ctr := rfl
@[simp] theorem State.modHood_adu (h : Hood) (f : HoodState → HoodState) (s : State) : (s.modHood h f).adu = s.adu := rfl
@[simp] theorem State.modHood_rps (h : Hood) (f : HoodState → HoodState) (s : State) : (s.modHood h f).rps = s.rps := rfl
@[simp] theorem State.modHood_fdu (h : Hood) (f : HoodState → HoodState) (s : State) : (s.modHood h f).fdu = s.fdu := rfl
@[simp] theorem State.modHood_hcu (h : Hood) (f : HoodState → HoodState) (s : State) : (s.modHood h f).hcu = s.hcu := rfl
@[simp] theorem State.modHood_wpu (h : Hood) (f : HoodState → HoodState) (s : State) : (s.modHood h f).wpu = s.wpu := rfl
@[simp] theorem State.modHood_lvu (h : Hood) (f : HoodState → HoodState) (s : State) : (s.modHood h f).lvu = s.lvu := rfl
@[simp] theorem State.modHood_psc (h : Hood) (f : HoodState → HoodState) (s : State) : (s.modHood h f).psc = s.psc := rfl
@[simp] theorem State.modHood_aou (h : Hood) (f : HoodState → HoodState) (s : State) : (s.modHood h f).aou = s.aou := rfl
@[simp] theorem State.modHood_oq (h : Hood) (f : HoodState → HoodState) (s : State) : (s.modHood h f).oq = s.oq := rfl
@[simp] theorem State.modHood_inl (h : Hood) (f : HoodState → HoodState) (s : State) : (s.modHood h f).inl = s.inl := rfl
@[simp] theorem State.modHood_scp (h : Hood) (f : HoodState → HoodState) (s : State) : (s.modHood h f).scp = s.scp := rfl
@[simp] theorem State.modHood_pending (h : Hood) (f : HoodState → HoodState) (s : State) : (s.modHood h f).pending = s.pending := rfl

@[simp] theorem State.modPort_timeMs (p : Port) (f : PortState → PortState) (s : State) : (s.modPort p f).timeMs = s.timeMs := rfl
@[simp] theorem State.modPort_tenth (p : Port) (f : PortState → PortState) (s : State) : (s.modPort p f).tenth = s.tenth := rfl
@[simp] theorem State.modPort_wireReads (p : Port) (f : PortState → PortState) (s : State) : (s.modPort p f).wireReads = s.wireReads := rfl
@[simp] theorem State.modPort_pins (p : Port) (f : PortState → PortState) (s : State) : (s.modPort p f).pins = s.pins := rfl
@[simp] theorem State.modPort_params (p : Port) (f : PortState → PortState) (s : State) : (s.modPort p f).params = s.params := rfl
@[simp] theorem State.modPort_ctr (p : Port) (f : PortState → PortState) (s : State) : (s.modPort p f).ctr = s.ctr := rfl
@[simp] theorem State.modPort_adu (p : Port) (f : PortState → PortState) (s : State) : (s.modPort p f).adu = s.adu := rfl
@[simp] theorem State.modPort_rps (p : Port) (f : PortState → PortState) (s : State) : (s.modPort p f).rps = s.rps := rfl
@[simp] theorem State.modPort_fdu (p : Port) (f : PortState → PortState) (s : State) : (s.modPort p f).fdu = s.fdu := rfl
@[simp] theorem State.modPort_hcu (p : Port) (f : PortState → PortState) (s : State) : (s.modPort p f).hcu = s.hcu := rfl
@[simp] theorem State.modPort_wpu (p : Port) (f : PortState → PortState) (s : State) : (s.modPort p f).wpu = s.wpu := rfl
@[simp] theorem State.modPort_lvu (p : Port) (f : PortState → PortState) (s : State) : (s.modPort p f).lvu = s.lvu := rfl
@[simp] theorem State.modPort_exm (p : Port) (f : PortState → PortState) (s : State) : (s.modPort p f).exm = s.exm := rfl
@[simp] theorem State.modPort_psc (p : Port) (f : PortState → PortState) (s : State) : (s.modPort p f).psc = s.psc := rfl
@[simp] theorem State.modPort_aou (p : Port) (f : PortState → PortState) (s : State) : (s.modPort p f).aou = s.aou := rfl
@[simp] theorem State.modPort_oq (p : Port) (f : PortState → PortState) (s : State) : (s.modPort p f).oq = s.oq := rfl
@[simp] theorem State.modPort_inl (p : Port) (f : PortState → PortState) (s : State) : (s.modPort p f).inl = s.inl := rfl
@[simp] theorem State.modPort_pending (p : Port) (f : PortState → PortState) (s : State) : (s.modPort p f).pending = s.pending := rfl

@[simp] theorem State.modLane_timeMs (l : Fin 8) (f : Lane → Lane) (s : State) : (s.modLane l f).timeMs = s.timeMs := rfl
@[simp] theorem State.modLane_tenth (l : Fin 8) (f : Lane → Lane) (s : State) : (s.modLane l f).tenth = s.tenth := rfl
@[simp] theorem State.modLane_wireReads (l : Fin 8) (f : Lane → Lane) (s : State) : (s.modLane l f).wireReads = s.wireReads := rfl
@[simp] theorem State.modLane_pins (l : Fin 8) (f : Lane → Lane) (s : State) : (s.modLane l f).pins = s.pins := rfl
@[simp] theorem State.modLane_params (l : Fin 8) (f : Lane → Lane) (s : State) : (s.modLane l f).params = s.params := rfl
@[simp] theorem State.modLane_ctr (l : Fin 8) (f : Lane → Lane) (s : State) : (s.modLane l f).ctr = s.ctr := rfl
@[simp] theorem State.modLane_adu (l : Fin 8) (f : Lane → Lane) (s : State) : (s.modLane l f).adu = s.adu := rfl
@[simp] theorem State.modLane_rps (l : Fin 8) (f : Lane → Lane) (s : State) : (s.modLane l f).rps = s.rps := rfl
@[simp] theorem State.modLane_hcu (l : Fin 8) (f : Lane → Lane) (s : State) : (s.modLane l f).hcu = s.hcu := rfl
@[simp] theorem State.modLane_wpu (l : Fin 8) (f : Lane → Lane) (s : State) : (s.modLane l f).wpu = s.wpu := rfl
@[simp] theorem State.modLane_lvu (l : Fin 8) (f : Lane → Lane) (s : State) : (s.modLane l f).lvu = s.lvu := rfl
@[simp] theorem State.modLane_exm (l : Fin 8) (f : Lane → Lane) (s : State) : (s.modLane l f).exm = s.exm := rfl
@[simp] theorem State.modLane_psc (l : Fin 8) (f : Lane → Lane) (s : State) : (s.modLane l f).psc = s.psc := rfl
@[simp] theorem State.modLane_aou (l : Fin 8) (f : Lane → Lane) (s : State) : (s.modLane l f).aou = s.aou := rfl
@[simp] theorem State.modLane_oq (l : Fin 8) (f : Lane → Lane) (s : State) : (s.modLane l f).oq = s.oq := rfl
@[simp] theorem State.modLane_inl (l : Fin 8) (f : Lane → Lane) (s : State) : (s.modLane l f).inl = s.inl := rfl
@[simp] theorem State.modLane_scp (l : Fin 8) (f : Lane → Lane) (s : State) : (s.modLane l f).scp = s.scp := rfl
@[simp] theorem State.modLane_pending (l : Fin 8) (f : Lane → Lane) (s : State) : (s.modLane l f).pending = s.pending := rfl

@[simp] theorem State.modRecord_timeMs (k : Word) (f : BoardRecord → BoardRecord) (s : State) : (s.modRecord k f).timeMs = s.timeMs := rfl
@[simp] theorem State.modRecord_tenth (k : Word) (f : BoardRecord → BoardRecord) (s : State) : (s.modRecord k f).tenth = s.tenth := rfl
@[simp] theorem State.modRecord_wireReads (k : Word) (f : BoardRecord → BoardRecord) (s : State) : (s.modRecord k f).wireReads = s.wireReads := rfl
@[simp] theorem State.modRecord_pins (k : Word) (f : BoardRecord → BoardRecord) (s : State) : (s.modRecord k f).pins = s.pins := rfl
@[simp] theorem State.modRecord_params (k : Word) (f : BoardRecord → BoardRecord) (s : State) : (s.modRecord k f).params = s.params := rfl
@[simp] theorem State.modRecord_adu (k : Word) (f : BoardRecord → BoardRecord) (s : State) : (s.modRecord k f).adu = s.adu := rfl
@[simp] theorem State.modRecord_rps (k : Word) (f : BoardRecord → BoardRecord) (s : State) : (s.modRecord k f).rps = s.rps := rfl
@[simp] theorem State.modRecord_fdu (k : Word) (f : BoardRecord → BoardRecord) (s : State) : (s.modRecord k f).fdu = s.fdu := rfl
@[simp] theorem State.modRecord_hcu (k : Word) (f : BoardRecord → BoardRecord) (s : State) : (s.modRecord k f).hcu = s.hcu := rfl
@[simp] theorem State.modRecord_wpu (k : Word) (f : BoardRecord → BoardRecord) (s : State) : (s.modRecord k f).wpu = s.wpu := rfl
@[simp] theorem State.modRecord_lvu (k : Word) (f : BoardRecord → BoardRecord) (s : State) : (s.modRecord k f).lvu = s.lvu := rfl
@[simp] theorem State.modRecord_exm (k : Word) (f : BoardRecord → BoardRecord) (s : State) : (s.modRecord k f).exm = s.exm := rfl
@[simp] theorem State.modRecord_psc (k : Word) (f : BoardRecord → BoardRecord) (s : State) : (s.modRecord k f).psc = s.psc := rfl
@[simp] theorem State.modRecord_aou (k : Word) (f : BoardRecord → BoardRecord) (s : State) : (s.modRecord k f).aou = s.aou := rfl
@[simp] theorem State.modRecord_oq (k : Word) (f : BoardRecord → BoardRecord) (s : State) : (s.modRecord k f).oq = s.oq := rfl
@[simp] theorem State.modRecord_inl (k : Word) (f : BoardRecord → BoardRecord) (s : State) : (s.modRecord k f).inl = s.inl := rfl
@[simp] theorem State.modRecord_scp (k : Word) (f : BoardRecord → BoardRecord) (s : State) : (s.modRecord k f).scp = s.scp := rfl
@[simp] theorem State.modRecord_pending (k : Word) (f : BoardRecord → BoardRecord) (s : State) : (s.modRecord k f).pending = s.pending := rfl

@[simp] theorem State.modRecords_timeMs (p : BoardRecord → Bool) (f : BoardRecord → BoardRecord) (s : State) : (s.modRecords p f).timeMs = s.timeMs := rfl
@[simp] theorem State.modRecords_tenth (p : BoardRecord → Bool) (f : BoardRecord → BoardRecord) (s : State) : (s.modRecords p f).tenth = s.tenth := rfl
@[simp] theorem State.modRecords_wireReads (p : BoardRecord → Bool) (f : BoardRecord → BoardRecord) (s : State) : (s.modRecords p f).wireReads = s.wireReads := rfl
@[simp] theorem State.modRecords_pins (p : BoardRecord → Bool) (f : BoardRecord → BoardRecord) (s : State) : (s.modRecords p f).pins = s.pins := rfl
@[simp] theorem State.modRecords_params (p : BoardRecord → Bool) (f : BoardRecord → BoardRecord) (s : State) : (s.modRecords p f).params = s.params := rfl
@[simp] theorem State.modRecords_adu (p : BoardRecord → Bool) (f : BoardRecord → BoardRecord) (s : State) : (s.modRecords p f).adu = s.adu := rfl
@[simp] theorem State.modRecords_rps (p : BoardRecord → Bool) (f : BoardRecord → BoardRecord) (s : State) : (s.modRecords p f).rps = s.rps := rfl
@[simp] theorem State.modRecords_fdu (p : BoardRecord → Bool) (f : BoardRecord → BoardRecord) (s : State) : (s.modRecords p f).fdu = s.fdu := rfl
@[simp] theorem State.modRecords_hcu (p : BoardRecord → Bool) (f : BoardRecord → BoardRecord) (s : State) : (s.modRecords p f).hcu = s.hcu := rfl
@[simp] theorem State.modRecords_wpu (p : BoardRecord → Bool) (f : BoardRecord → BoardRecord) (s : State) : (s.modRecords p f).wpu = s.wpu := rfl
@[simp] theorem State.modRecords_lvu (p : BoardRecord → Bool) (f : BoardRecord → BoardRecord) (s : State) : (s.modRecords p f).lvu = s.lvu := rfl
@[simp] theorem State.modRecords_exm (p : BoardRecord → Bool) (f : BoardRecord → BoardRecord) (s : State) : (s.modRecords p f).exm = s.exm := rfl
@[simp] theorem State.modRecords_psc (p : BoardRecord → Bool) (f : BoardRecord → BoardRecord) (s : State) : (s.modRecords p f).psc = s.psc := rfl
@[simp] theorem State.modRecords_aou (p : BoardRecord → Bool) (f : BoardRecord → BoardRecord) (s : State) : (s.modRecords p f).aou = s.aou := rfl
@[simp] theorem State.modRecords_oq (p : BoardRecord → Bool) (f : BoardRecord → BoardRecord) (s : State) : (s.modRecords p f).oq = s.oq := rfl
@[simp] theorem State.modRecords_inl (p : BoardRecord → Bool) (f : BoardRecord → BoardRecord) (s : State) : (s.modRecords p f).inl = s.inl := rfl
@[simp] theorem State.modRecords_scp (p : BoardRecord → Bool) (f : BoardRecord → BoardRecord) (s : State) : (s.modRecords p f).scp = s.scp := rfl
@[simp] theorem State.modRecords_pending (p : BoardRecord → Bool) (f : BoardRecord → BoardRecord) (s : State) : (s.modRecords p f).pending = s.pending := rfl

@[simp] theorem State.allUnsure_timeMs (s : State) : (s.allUnsure).timeMs = s.timeMs := rfl
@[simp] theorem State.allUnsure_tenth (s : State) : (s.allUnsure).tenth = s.tenth := rfl
@[simp] theorem State.allUnsure_wireReads (s : State) : (s.allUnsure).wireReads = s.wireReads := rfl
@[simp] theorem State.allUnsure_pins (s : State) : (s.allUnsure).pins = s.pins := rfl
@[simp] theorem State.allUnsure_params (s : State) : (s.allUnsure).params = s.params := rfl
@[simp] theorem State.allUnsure_adu (s : State) : (s.allUnsure).adu = s.adu := rfl
@[simp] theorem State.allUnsure_rps (s : State) : (s.allUnsure).rps = s.rps := rfl
@[simp] theorem State.allUnsure_fdu (s : State) : (s.allUnsure).fdu = s.fdu := rfl
@[simp] theorem State.allUnsure_hcu (s : State) : (s.allUnsure).hcu = s.hcu := rfl
@[simp] theorem State.allUnsure_wpu (s : State) : (s.allUnsure).wpu = s.wpu := rfl
@[simp] theorem State.allUnsure_lvu (s : State) : (s.allUnsure).lvu = s.lvu := rfl
@[simp] theorem State.allUnsure_exm (s : State) : (s.allUnsure).exm = s.exm := rfl
@[simp] theorem State.allUnsure_psc (s : State) : (s.allUnsure).psc = s.psc := rfl
@[simp] theorem State.allUnsure_aou (s : State) : (s.allUnsure).aou = s.aou := rfl
@[simp] theorem State.allUnsure_oq (s : State) : (s.allUnsure).oq = s.oq := rfl
@[simp] theorem State.allUnsure_inl (s : State) : (s.allUnsure).inl = s.inl := rfl
@[simp] theorem State.allUnsure_scp (s : State) : (s.allUnsure).scp = s.scp := rfl
@[simp] theorem State.allUnsure_pending (s : State) : (s.allUnsure).pending = s.pending := rfl

@[simp] theorem State.incRef_timeMs (i : Fin 32) (s : State) : (s.incRef i).timeMs = s.timeMs := rfl
@[simp] theorem State.incRef_tenth (i : Fin 32) (s : State) : (s.incRef i).tenth = s.tenth := rfl
@[simp] theorem State.incRef_wireReads (i : Fin 32) (s : State) : (s.incRef i).wireReads = s.wireReads := rfl
@[simp] theorem State.incRef_pins (i : Fin 32) (s : State) : (s.incRef i).pins = s.pins := rfl
@[simp] theorem State.incRef_params (i : Fin 32) (s : State) : (s.incRef i).params = s.params := rfl
@[simp] theorem State.incRef_ctr (i : Fin 32) (s : State) : (s.incRef i).ctr = s.ctr := rfl
@[simp] theorem State.incRef_adu (i : Fin 32) (s : State) : (s.incRef i).adu = s.adu := rfl
@[simp] theorem State.incRef_fdu (i : Fin 32) (s : State) : (s.incRef i).fdu = s.fdu := rfl
@[simp] theorem State.incRef_hcu (i : Fin 32) (s : State) : (s.incRef i).hcu = s.hcu := rfl
@[simp] theorem State.incRef_wpu (i : Fin 32) (s : State) : (s.incRef i).wpu = s.wpu := rfl
@[simp] theorem State.incRef_lvu (i : Fin 32) (s : State) : (s.incRef i).lvu = s.lvu := rfl
@[simp] theorem State.incRef_exm (i : Fin 32) (s : State) : (s.incRef i).exm = s.exm := rfl
@[simp] theorem State.incRef_psc (i : Fin 32) (s : State) : (s.incRef i).psc = s.psc := rfl
@[simp] theorem State.incRef_aou (i : Fin 32) (s : State) : (s.incRef i).aou = s.aou := rfl
@[simp] theorem State.incRef_oq (i : Fin 32) (s : State) : (s.incRef i).oq = s.oq := rfl
@[simp] theorem State.incRef_inl (i : Fin 32) (s : State) : (s.incRef i).inl = s.inl := rfl
@[simp] theorem State.incRef_scp (i : Fin 32) (s : State) : (s.incRef i).scp = s.scp := rfl
@[simp] theorem State.incRef_pending (i : Fin 32) (s : State) : (s.incRef i).pending = s.pending := rfl

@[simp] theorem State.decRef_timeMs (i : Fin 32) (s : State) : (s.decRef i).timeMs = s.timeMs := rfl
@[simp] theorem State.decRef_tenth (i : Fin 32) (s : State) : (s.decRef i).tenth = s.tenth := rfl
@[simp] theorem State.decRef_wireReads (i : Fin 32) (s : State) : (s.decRef i).wireReads = s.wireReads := rfl
@[simp] theorem State.decRef_pins (i : Fin 32) (s : State) : (s.decRef i).pins = s.pins := rfl
@[simp] theorem State.decRef_params (i : Fin 32) (s : State) : (s.decRef i).params = s.params := rfl
@[simp] theorem State.decRef_ctr (i : Fin 32) (s : State) : (s.decRef i).ctr = s.ctr := rfl
@[simp] theorem State.decRef_adu (i : Fin 32) (s : State) : (s.decRef i).adu = s.adu := rfl
@[simp] theorem State.decRef_fdu (i : Fin 32) (s : State) : (s.decRef i).fdu = s.fdu := rfl
@[simp] theorem State.decRef_hcu (i : Fin 32) (s : State) : (s.decRef i).hcu = s.hcu := rfl
@[simp] theorem State.decRef_wpu (i : Fin 32) (s : State) : (s.decRef i).wpu = s.wpu := rfl
@[simp] theorem State.decRef_lvu (i : Fin 32) (s : State) : (s.decRef i).lvu = s.lvu := rfl
@[simp] theorem State.decRef_exm (i : Fin 32) (s : State) : (s.decRef i).exm = s.exm := rfl
@[simp] theorem State.decRef_psc (i : Fin 32) (s : State) : (s.decRef i).psc = s.psc := rfl
@[simp] theorem State.decRef_aou (i : Fin 32) (s : State) : (s.decRef i).aou = s.aou := rfl
@[simp] theorem State.decRef_oq (i : Fin 32) (s : State) : (s.decRef i).oq = s.oq := rfl
@[simp] theorem State.decRef_inl (i : Fin 32) (s : State) : (s.decRef i).inl = s.inl := rfl
@[simp] theorem State.decRef_scp (i : Fin 32) (s : State) : (s.decRef i).scp = s.scp := rfl
@[simp] theorem State.decRef_pending (i : Fin 32) (s : State) : (s.decRef i).pending = s.pending := rfl

@[simp] theorem State.addEvent_timeMs (e : EventKind) (s : State) : (s.addEvent e).timeMs = s.timeMs := rfl
@[simp] theorem State.addEvent_tenth (e : EventKind) (s : State) : (s.addEvent e).tenth = s.tenth := rfl
@[simp] theorem State.addEvent_wireReads (e : EventKind) (s : State) : (s.addEvent e).wireReads = s.wireReads := rfl
@[simp] theorem State.addEvent_pins (e : EventKind) (s : State) : (s.addEvent e).pins = s.pins := rfl
@[simp] theorem State.addEvent_params (e : EventKind) (s : State) : (s.addEvent e).params = s.params := rfl
@[simp] theorem State.addEvent_ctr (e : EventKind) (s : State) : (s.addEvent e).ctr = s.ctr := rfl
@[simp] theorem State.addEvent_adu (e : EventKind) (s : State) : (s.addEvent e).adu = s.adu := rfl
@[simp] theorem State.addEvent_rps (e : EventKind) (s : State) : (s.addEvent e).rps = s.rps := rfl
@[simp] theorem State.addEvent_fdu (e : EventKind) (s : State) : (s.addEvent e).fdu = s.fdu := rfl
@[simp] theorem State.addEvent_hcu (e : EventKind) (s : State) : (s.addEvent e).hcu = s.hcu := rfl
@[simp] theorem State.addEvent_wpu (e : EventKind) (s : State) : (s.addEvent e).wpu = s.wpu := rfl
@[simp] theorem State.addEvent_lvu (e : EventKind) (s : State) : (s.addEvent e).lvu = s.lvu := rfl
@[simp] theorem State.addEvent_exm (e : EventKind) (s : State) : (s.addEvent e).exm = s.exm := rfl
@[simp] theorem State.addEvent_psc (e : EventKind) (s : State) : (s.addEvent e).psc = s.psc := rfl
@[simp] theorem State.addEvent_aou (e : EventKind) (s : State) : (s.addEvent e).aou = s.aou := rfl
@[simp] theorem State.addEvent_oq (e : EventKind) (s : State) : (s.addEvent e).oq = s.oq := rfl
@[simp] theorem State.addEvent_inl (e : EventKind) (s : State) : (s.addEvent e).inl = s.inl := rfl
@[simp] theorem State.addEvent_pending (e : EventKind) (s : State) : (s.addEvent e).pending = s.pending := rfl

@[simp] theorem State.endSilence_timeMs (c : AlarmClass) (s : State) : (s.endSilence c).timeMs = s.timeMs := rfl
@[simp] theorem State.endSilence_tenth (c : AlarmClass) (s : State) : (s.endSilence c).tenth = s.tenth := rfl
@[simp] theorem State.endSilence_wireReads (c : AlarmClass) (s : State) : (s.endSilence c).wireReads = s.wireReads := rfl
@[simp] theorem State.endSilence_pins (c : AlarmClass) (s : State) : (s.endSilence c).pins = s.pins := rfl
@[simp] theorem State.endSilence_params (c : AlarmClass) (s : State) : (s.endSilence c).params = s.params := rfl
@[simp] theorem State.endSilence_ctr (c : AlarmClass) (s : State) : (s.endSilence c).ctr = s.ctr := rfl
@[simp] theorem State.endSilence_adu (c : AlarmClass) (s : State) : (s.endSilence c).adu = s.adu := rfl
@[simp] theorem State.endSilence_rps (c : AlarmClass) (s : State) : (s.endSilence c).rps = s.rps := rfl
@[simp] theorem State.endSilence_fdu (c : AlarmClass) (s : State) : (s.endSilence c).fdu = s.fdu := rfl
@[simp] theorem State.endSilence_hcu (c : AlarmClass) (s : State) : (s.endSilence c).hcu = s.hcu := rfl
@[simp] theorem State.endSilence_wpu (c : AlarmClass) (s : State) : (s.endSilence c).wpu = s.wpu := rfl
@[simp] theorem State.endSilence_lvu (c : AlarmClass) (s : State) : (s.endSilence c).lvu = s.lvu := rfl
@[simp] theorem State.endSilence_exm (c : AlarmClass) (s : State) : (s.endSilence c).exm = s.exm := rfl
@[simp] theorem State.endSilence_psc (c : AlarmClass) (s : State) : (s.endSilence c).psc = s.psc := rfl
@[simp] theorem State.endSilence_oq (c : AlarmClass) (s : State) : (s.endSilence c).oq = s.oq := rfl
@[simp] theorem State.endSilence_inl (c : AlarmClass) (s : State) : (s.endSilence c).inl = s.inl := rfl
@[simp] theorem State.endSilence_scp (c : AlarmClass) (s : State) : (s.endSilence c).scp = s.scp := rfl
@[simp] theorem State.endSilence_pending (c : AlarmClass) (s : State) : (s.endSilence c).pending = s.pending := rfl

/-! ## Two blocks changed -/

@[simp] theorem State.addIncident_timeMs (c : IncidentCode) (j : Option Subject) (t v : Option Word) (s : State) :
    (s.addIncident c j t v).timeMs = s.timeMs := rfl
@[simp] theorem State.addIncident_tenth (c : IncidentCode) (j : Option Subject) (t v : Option Word) (s : State) :
    (s.addIncident c j t v).tenth = s.tenth := rfl
@[simp] theorem State.addIncident_wireReads (c : IncidentCode) (j : Option Subject) (t v : Option Word) (s : State) :
    (s.addIncident c j t v).wireReads = s.wireReads := rfl
@[simp] theorem State.addIncident_pins (c : IncidentCode) (j : Option Subject) (t v : Option Word) (s : State) :
    (s.addIncident c j t v).pins = s.pins := rfl
@[simp] theorem State.addIncident_params (c : IncidentCode) (j : Option Subject) (t v : Option Word) (s : State) :
    (s.addIncident c j t v).params = s.params := rfl
@[simp] theorem State.addIncident_ctr (c : IncidentCode) (j : Option Subject) (t v : Option Word) (s : State) :
    (s.addIncident c j t v).ctr = s.ctr := rfl
@[simp] theorem State.addIncident_adu (c : IncidentCode) (j : Option Subject) (t v : Option Word) (s : State) :
    (s.addIncident c j t v).adu = s.adu := rfl
@[simp] theorem State.addIncident_rps (c : IncidentCode) (j : Option Subject) (t v : Option Word) (s : State) :
    (s.addIncident c j t v).rps = s.rps := rfl
@[simp] theorem State.addIncident_fdu (c : IncidentCode) (j : Option Subject) (t v : Option Word) (s : State) :
    (s.addIncident c j t v).fdu = s.fdu := rfl
@[simp] theorem State.addIncident_hcu (c : IncidentCode) (j : Option Subject) (t v : Option Word) (s : State) :
    (s.addIncident c j t v).hcu = s.hcu := rfl
@[simp] theorem State.addIncident_wpu (c : IncidentCode) (j : Option Subject) (t v : Option Word) (s : State) :
    (s.addIncident c j t v).wpu = s.wpu := rfl
@[simp] theorem State.addIncident_lvu (c : IncidentCode) (j : Option Subject) (t v : Option Word) (s : State) :
    (s.addIncident c j t v).lvu = s.lvu := rfl
@[simp] theorem State.addIncident_exm (c : IncidentCode) (j : Option Subject) (t v : Option Word) (s : State) :
    (s.addIncident c j t v).exm = s.exm := rfl
@[simp] theorem State.addIncident_psc (c : IncidentCode) (j : Option Subject) (t v : Option Word) (s : State) :
    (s.addIncident c j t v).psc = s.psc := rfl
@[simp] theorem State.addIncident_aou (c : IncidentCode) (j : Option Subject) (t v : Option Word) (s : State) :
    (s.addIncident c j t v).aou = s.aou := rfl
@[simp] theorem State.addIncident_oq (c : IncidentCode) (j : Option Subject) (t v : Option Word) (s : State) :
    (s.addIncident c j t v).oq = s.oq := rfl
@[simp] theorem State.addIncident_pending (c : IncidentCode) (j : Option Subject) (t v : Option Word) (s : State) :
    (s.addIncident c j t v).pending = s.pending := rfl

@[simp] theorem State.newLatch_timeMs (c : AlarmClass) (s : State) :
    (s.newLatch c).timeMs = s.timeMs := rfl
@[simp] theorem State.newLatch_tenth (c : AlarmClass) (s : State) :
    (s.newLatch c).tenth = s.tenth := rfl
@[simp] theorem State.newLatch_wireReads (c : AlarmClass) (s : State) :
    (s.newLatch c).wireReads = s.wireReads := rfl
@[simp] theorem State.newLatch_pins (c : AlarmClass) (s : State) :
    (s.newLatch c).pins = s.pins := rfl
@[simp] theorem State.newLatch_params (c : AlarmClass) (s : State) :
    (s.newLatch c).params = s.params := rfl
@[simp] theorem State.newLatch_ctr (c : AlarmClass) (s : State) :
    (s.newLatch c).ctr = s.ctr := rfl
@[simp] theorem State.newLatch_adu (c : AlarmClass) (s : State) :
    (s.newLatch c).adu = s.adu := rfl
@[simp] theorem State.newLatch_rps (c : AlarmClass) (s : State) :
    (s.newLatch c).rps = s.rps := rfl
@[simp] theorem State.newLatch_fdu (c : AlarmClass) (s : State) :
    (s.newLatch c).fdu = s.fdu := rfl
@[simp] theorem State.newLatch_hcu (c : AlarmClass) (s : State) :
    (s.newLatch c).hcu = s.hcu := rfl
@[simp] theorem State.newLatch_wpu (c : AlarmClass) (s : State) :
    (s.newLatch c).wpu = s.wpu := rfl
@[simp] theorem State.newLatch_lvu (c : AlarmClass) (s : State) :
    (s.newLatch c).lvu = s.lvu := rfl
@[simp] theorem State.newLatch_exm (c : AlarmClass) (s : State) :
    (s.newLatch c).exm = s.exm := rfl
@[simp] theorem State.newLatch_psc (c : AlarmClass) (s : State) :
    (s.newLatch c).psc = s.psc := rfl
@[simp] theorem State.newLatch_oq (c : AlarmClass) (s : State) :
    (s.newLatch c).oq = s.oq := rfl
@[simp] theorem State.newLatch_inl (c : AlarmClass) (s : State) :
    (s.newLatch c).inl = s.inl := rfl
@[simp] theorem State.newLatch_pending (c : AlarmClass) (s : State) :
    (s.newLatch c).pending = s.pending := rfl

theorem State.latchTrack_cases (s : State) :
    s.latchTrack = s ∨ s.latchTrack = (s.modCtr fun c => { c with trackAlert := true }).newLatch .track := by
  unfold State.latchTrack; split <;> simp

theorem State.releaseRef_cases (r : BoardRecord) (s : State) :
    s.releaseRef r = s ∨ ∃ i, r.recipe = some i ∧ s.releaseRef r = s.decRef i := by
  unfold State.releaseRef; split
  · exact .inr ⟨_, ‹_›, rfl⟩
  · exact .inl rfl

theorem whenDue_true {due : Bool} (f : State → State) (s : State) (h : due = true) : whenDue due f s = .next (f s) := by
  simp [whenDue, h]

theorem whenDue_false {due : Bool} (f : State → State) (s : State) (h : due = false) : whenDue due f s = .next s := by
  simp [whenDue, h]

end Sys2Proof.Machine
end

