-- ==== Sys2Proof/Laws/Ports.lean ====
section
/-! SUPPORT. The ports: each command's row is the completion of its frame, a code names its command, and what a frame does
that completes on an idle port. -/

namespace Sys2Proof.Machine

/-- The row of a port command is the completion of its frame (R197). -/
theorem exec_instr (c : Cmd) (p : Port) (pl : List Byte) (s : State) :
    exec (c.instr p pl) s = .next (s.frameArrives p ⟨c.code, pl⟩) := by
  cases c <;> rfl

/-- The CMD byte of a command names that command. -/
theorem commandOf_code (c : Cmd) : commandOf c.code = some c := by
  cases c <;> rfl

/-- Returning to hunting leaves everything but the receive buffer. -/
@[simp] theorem State.hunt_waiting (p q : Port) (s : State) :
    ((s.hunt p).scp.ports.get q).waiting = (s.scp.ports.get q).waiting := by
  cases p <;> cases q <;> rfl

@[simp] theorem State.hunt_answering (p q : Port) (s : State) :
    ((s.hunt p).scp.ports.get q).answering = (s.scp.ports.get q).answering := by
  cases p <;> cases q <;> rfl

@[simp] theorem State.hunt_events (p q : Port) (s : State) :
    ((s.hunt p).scp.ports.get q).events = (s.scp.ports.get q).events := by
  cases p <;> cases q <;> rfl

@[simp] theorem State.hunt_mask (p q : Port) (s : State) :
    ((s.hunt p).scp.ports.get q).mask = (s.scp.ports.get q).mask := by
  cases p <;> cases q <;> rfl

/-- A frame that completes on an idle port is taken at once (R197). -/
theorem State.frameArrives_idle {p : Port} {f : Frame} {s : State} (hw : (s.scp.ports.get p).waiting = none)
    (ha : (s.scp.ports.get p).answering = none) : s.frameArrives p f = (s.hunt p).takeFrame p f := by
  simp [State.frameArrives, hw, ha]

/-- A frame of a known command passes to the checks of R198 with that command. -/
theorem State.takeFrame_command (c : Cmd) (p : Port) (pl : List Byte) (s : State) :
    s.takeFrame p ⟨c.code, pl⟩ = s.takeCommand c p ⟨c.code, pl⟩ := by
  simp [State.takeFrame, commandOf_code]

/-- A frame that passes the checks of R198 has its command's own rule run and answered. -/
theorem State.takeCommand_run {c : Cmd} {p : Port} {pl : List Byte} {s : State} (hp : c.permits p = true)
    (hl : c.lengthOk pl.length = true) (hv : c.available s.psc.state = true) :
    s.takeCommand c p ⟨c.code, pl⟩ = (c.run p pl s).2.respond p c.code (c.run p pl s).1 := by
  simp [State.takeCommand, hp, hl, hv]

end Sys2Proof.Machine
end

