-- ==== Sys2Proof/Laws/Reactions.lean ====
section
/-! SUPPORT. What the reactions to an event leave: each operation that may follow an event keeps the fixed part of the state
(`State.fixed`), and so do the entries to the process states. -/

namespace Sys2Proof.Machine

/-! ## Updates of one item -/

theorem PerChannel.map_set_of_eq {α β : Type} {f : α → β} {q : PerChannel α} {c : Channel} {v : α} (h : f v = f (q.get c)) :
    (q.set c v).map f = q.map f := by
  cases c <;> simp_all [PerChannel.map, PerChannel.set, PerChannel.get]

theorem PerPump.map_set_of_eq {α β : Type} {f : α → β} {q : PerPump α} {c : Pump} {v : α} (h : f v = f (q.get c)) :
    (q.set c v).map f = q.map f := by
  cases c <;> simp_all [PerPump.map, PerPump.set, PerPump.get]

theorem PerHood.map_set_of_eq {α β : Type} {f : α → β} {q : PerHood α} {c : Hood} {v : α} (h : f v = f (q.get c)) :
    (q.set c v).map f = q.map f := by
  cases c <;> simp_all [PerHood.map, PerHood.set, PerHood.get]

theorem modRecords_fixed (p : BoardRecord → Bool) (f : BoardRecord → BoardRecord) (s : State)
    (h : ∀ r, (f r).fixed = r.fixed) : (s.modRecords p f).fixed = s.fixed := by
  have : (s.ctr.table.map fun r => if p r then f r else r).map BoardRecord.fixed = s.ctr.table.map BoardRecord.fixed := by
    rw [List.map_map]; apply List.map_congr_left; intro r _; simp only [Function.comp]; split <;> simp [h]
  simp only [State.fixed, State.modRecords, State.modCtr, this]

theorem modRecord_fixed (k : Word) (f : BoardRecord → BoardRecord) (s : State) (h : ∀ r, (f r).fixed = r.fixed) :
    (s.modRecord k f).fixed = s.fixed := modRecords_fixed (fun r => r.entryPos == k) f s h

theorem modOwner_fixed (o : Option Word) (f : BoardRecord → BoardRecord) (s : State) (h : ∀ r, (f r).fixed = r.fixed) :
    (s.modOwner o f).fixed = s.fixed := by
  cases o with
  | none => rfl
  | some k => exact modRecord_fixed k f s h

theorem modLane_fixed (l : Fin 8) (f : Lane → Lane) (s : State) : (s.modLane l f).fixed = s.fixed := rfl

theorem modCh_fixed (c : Channel) (f : Heater → Heater) (s : State) (h : ∀ u, (f u).fixed = u.fixed) :
    (s.modCh c f).fixed = s.fixed := by
  have : (s.hcu.ch.set c (f (s.hcu.ch.get c))).map Heater.fixed = s.hcu.ch.map Heater.fixed :=
    PerChannel.map_set_of_eq (h _)
  simp only [State.fixed, State.modCh, State.modHcu, this]

theorem modPump_fixed (p : Pump) (f : PumpState → PumpState) (s : State) (h : ∀ u, (f u).fixed = u.fixed) :
    (s.modPump p f).fixed = s.fixed := by
  have : (s.wpu.pumps.set p (f (s.wpu.pumps.get p))).map PumpState.fixed = s.wpu.pumps.map PumpState.fixed :=
    PerPump.map_set_of_eq (h _)
  simp only [State.fixed, State.modPump, State.modWpu, this]

/-! ## Flags of a record -/

theorem flag_fixed (f : BoardFlags → BoardFlags) (r : BoardRecord) : (r.flag f).fixed = r.fixed := rfl

theorem modDose_fixed (l : Fin 8) (f : LaneDose → LaneDose) (r : BoardRecord) : (r.modDose l f).fixed = r.fixed := rfl

theorem partialFlux_fixed (r : BoardRecord) : r.partialFlux.fixed = r.fixed := rfl

theorem skipFlux_fixed (r : BoardRecord) : r.skipFlux.fixed = r.fixed := rfl

theorem settleDisabled_fixed (s : State) (r : BoardRecord) : (s.settleDisabled r).fixed = r.fixed := rfl

theorem addShortfall_fixed (l : Fin 8) (n : Nat) (r : BoardRecord) : (r.addShortfall l n).fixed = r.fixed := by
  simp only [BoardRecord.addShortfall]; split <;> rfl

/-! ## Events, incidents and latches -/

theorem addEvent_fixed (e : EventKind) (s : State) : (s.addEvent e).fixed = s.fixed := rfl

theorem addIncident_fixed (c : IncidentCode) (j : Option Subject) (t v : Option Word) (s : State) :
    (s.addIncident c j t v).fixed = s.fixed := rfl

theorem newLatch_fixed (c : AlarmClass) (s : State) : (s.newLatch c).fixed = s.fixed := rfl

theorem setState_fixed (p : ProcState) (s : State) : (s.setState p).fixed = s.fixed := by
  simp only [State.setState]; split <;> rfl

/-! ## Flux -/

theorem discardOwed_fixed (l : Fin 8) (s : State) : (s.discardOwed l).fixed = s.fixed := by
  simp only [State.discardOwed]; split
  · rw [modLane_fixed, modOwner_fixed _ _ _ (addShortfall_fixed _ _)]
  · rfl

theorem foldl_fixed {α : Type} (f : State → α → State) (h : ∀ s a, (f s a).fixed = s.fixed) (as : List α) (s : State) :
    (as.foldl f s).fixed = s.fixed := by
  induction as generalizing s with
  | nil => rfl
  | cons a as ih => rw [List.foldl_cons, ih, h]

theorem cutLanes_fixed (s : State) : s.cutLanes.fixed = s.fixed := rfl

theorem cutAction_fixed (s : State) : s.cutAction.fixed = s.fixed := by
  simp only [State.cutAction]
  rw [modRecords_fixed _ _ _ (fun r => by rw [partialFlux_fixed, settleDisabled_fixed]),
    foldl_fixed _ (fun s l => discardOwed_fixed l s), cutLanes_fixed]

theorem applyCut_fixed (s : State) : s.applyCut.fixed = s.fixed := by
  simp only [State.applyCut]; split
  · rw [addIncident_fixed, cutAction_fixed]
  · exact cutAction_fixed s

theorem followInhibit_fixed (s : State) : s.followInhibit.fixed = s.fixed := by
  simp only [State.followInhibit]; split
  · rw [applyCut_fixed]; rfl
  · rfl

/-! ## Heaters -/

theorem zeroHeaters_fixed (s : State) : s.zeroHeaters.fixed = s.fixed := rfl

theorem limitZone_fixed (c : Channel) (s : State) : (s.limitZone c).fixed = s.fixed := by
  exact modCh_fixed _ _ _ fun u => by split <;> rfl

theorem limitZones_fixed (s : State) : s.limitZones.fixed = s.fixed := by
  simp only [State.limitZones, limitZone_fixed]

theorem scanOvertemp_fixed (c : Channel) (s : State) : (s.scanOvertemp c).fixed = s.fixed := by
  simp only [State.scanOvertemp]; split
  · rw [newLatch_fixed, addIncident_fixed]; exact modCh_fixed _ _ _ fun _ => rfl
  · rfl

theorem scanOvertemps_fixed (s : State) : s.scanOvertemps.fixed = s.fixed :=
  foldl_fixed _ (fun s c => scanOvertemp_fixed c s) _ _

/-! ## Pumps -/

theorem startPump_fixed (p : Pump) (s : State) : (s.startPump p).fixed = s.fixed := by
  simp only [State.startPump]; split
  · split <;> exact modPump_fixed _ _ _ fun _ => rfl
  · rfl

theorem startPumps_fixed (s : State) : s.startPumps.fixed = s.fixed := by
  simp only [State.startPumps, startPump_fixed]

theorem retarget_fixed (n : Nat) (u : PumpState) : (u.retarget n).fixed = u.fixed := by
  simp only [PumpState.retarget]; repeat' split
  all_goals rfl

theorem retargetPumps_fixed (s : State) : s.retargetPumps.fixed = s.fixed := by
  simp only [State.retargetPumps, startPumps_fixed]
  simp only [State.fixed, State.modWpu, PerPump.map, retarget_fixed]

theorem stopFrom_fixed (st : List PumpStage) (u : PumpState) : (u.stopFrom st).fixed = u.fixed := by
  simp only [PumpState.stopFrom]; split <;> rfl

theorem pumpsStandby_fixed (s : State) : s.pumpsStandby.fixed = s.fixed := by
  simp only [State.fixed, State.pumpsStandby, State.modWpu, PerPump.map, stopFrom_fixed]

theorem pumpsTrip_fixed (s : State) : s.pumpsTrip.fixed = s.fixed := rfl

theorem noteWave_fixed (s : State) : s.noteWave.fixed = s.fixed := by
  simp only [State.noteWave]; split <;> rfl

/-- Setting POT_MOLTEN changes, besides the flag, what a start of the pumps changes. -/
theorem setMolten_fixed (s : State) : s.setMolten.fixed = (s.modWpu fun u => { u with molten := true }).fixed :=
  startPumps_fixed _

/-- The melt timer, running from `t`, against the melt hold. -/
theorem meltHeld_of_start {s : State} {t : Word} (h : s.wpu.meltStart = some t) :
    s.meltHeld = decide (s.params.meltHold * 1000 ≤ elapsed s.timeMs t) := by simp only [State.meltHeld, h]

/-- What a qualifying POT sample leaves in the WPU before POT_MOLTEN is judged (R116). -/
theorem runMelt_wpu (s : State) : s.runMelt.wpu = { s.wpu with
    meltStart := some (s.wpu.meltStart.getD s.timeMs)
    ripe := if s.params.meltHold * 1000 ≤ elapsed s.timeMs (s.wpu.meltStart.getD s.timeMs) then some s.timeMs else none } := by
  unfold State.runMelt
  rw [State.modWpu_wpu, meltHeld_of_start (t := s.wpu.meltStart.getD s.timeMs) rfl]
  simp only [decide_eq_true_eq]
  rfl

/-- A POT sample of this instant that finds the timer at the melt hold is what POT_MOLTEN_SET asks for, and nothing else is
(R116). -/
theorem runMelt_moltenDue (s : State) : s.runMelt.moltenDue =
    (!s.wpu.molten && decide (s.params.meltHold * 1000 ≤ elapsed s.timeMs (s.wpu.meltStart.getD s.timeMs))) := by
  have hw := runMelt_wpu s
  have ht : s.runMelt.timeMs = s.timeMs := rfl
  simp only [State.moltenDue, hw, ht]
  split <;> simp [*]

/-! ## WIRE_END -/

/-- The qualify time of WIRE_END runs on where the input was active and is read active again, and is 0 otherwise (R149). -/
theorem readWire_wireTimer (s : State) : s.readWire.lvu.wireTimer =
    if s.pins.wireEnd && s.readWire.pins.wireEnd then s.lvu.wireTimer + 1 else 0 := rfl

/-- WIRE_OUT is not due while the input is inactive, whatever the qualify time (R149). -/
theorem wireDue_of_inactive {s : State} (h : s.pins.wireEnd = false) : s.wireDue = false := by simp [State.wireDue, h]

/-! ## Probe and feeder -/

theorem startAscent_fixed (s : State) : (s.startAscent false).fixed = s.fixed := by
  simp only [State.startAscent]; split <;> rfl

theorem abandon_fixed (noted : Bool) (s : State) : (s.abandon noted).fixed = s.fixed := by
  simp only [State.abandon]; split
  · rw [startAscent_fixed]; split
    · exact addIncident_fixed ..
    · rfl
  · rfl

theorem stopFeed_fixed (s : State) : s.stopFeed.fixed = s.fixed := by
  simp only [State.stopFeed]; split <;> rfl

theorem levelIdle_fixed (noted : Bool) (s : State) : (s.levelIdle noted).fixed = s.fixed := by
  rw [State.levelIdle, stopFeed_fixed, abandon_fixed]

theorem watchProbe_fixed (s : State) : s.watchProbe.fixed = s.fixed := by
  simp only [State.watchProbe]; split
  · rfl
  · exact abandon_fixed true s

/-! ## Entries and transitions -/

theorem quietHoods_fixed (s : State) : s.quietHoods.fixed = s.fixed := rfl

theorem unsettle_fixed (s : State) : s.unsettle.fixed = s.fixed := rfl

theorem restartSettle_fixed (s : State) : s.restartSettle.fixed = s.fixed := rfl

theorem graceIdle_fixed (s : State) : s.graceIdle.fixed = s.fixed := rfl

theorem scanAfter_fixed (b : Bool) (s : State) : (s.scanAfter b).fixed = s.fixed := by
  simp only [State.scanAfter]; split
  · rfl
  · exact scanOvertemps_fixed s

theorem unqualify_fixed (s : State) : s.unqualify.fixed = s.fixed := rfl

theorem markTripped_fixed (s : State) : s.markTripped.fixed = s.fixed := modRecords_fixed _ _ _ fun _ => rfl

theorem enterTrip_fixed (c : TripCause) (s : State) : (s.enterTrip c).fixed = s.fixed := by
  simp only [State.enterTrip, scanAfter_fixed, graceIdle_fixed, unsettle_fixed, quietHoods_fixed, levelIdle_fixed,
    pumpsTrip_fixed, unqualify_fixed, cutAction_fixed, newLatch_fixed, addIncident_fixed, markTripped_fixed,
    zeroHeaters_fixed, setState_fixed]

theorem tripBegins_fixed (c : TripCause) (s : State) : (s.tripBegins c).fixed = s.fixed := by
  simp only [State.tripBegins]; split
  · rfl
  · exact enterTrip_fixed c s

theorem checkOvertemps_fixed (s : State) : s.checkOvertemps.fixed = s.fixed := by
  simp only [State.checkOvertemps]; split
  · rw [tripBegins_fixed, scanOvertemps_fixed]
  · exact scanOvertemps_fixed s

theorem enterStandby_fixed (s : State) : s.enterStandby.fixed = s.fixed := by
  simp only [State.enterStandby]; split <;>
    simp only [checkOvertemps_fixed, unsettle_fixed, quietHoods_fixed, levelIdle_fixed, pumpsStandby_fixed, unqualify_fixed,
      zeroHeaters_fixed, setState_fixed]

theorem enterWarming_fixed (s : State) : s.enterWarming.fixed = s.fixed := by
  simp only [State.enterWarming, checkOvertemps_fixed, startPumps_fixed, restartSettle_fixed, setState_fixed]

theorem goTo_fixed (p : ProcState) (s : State) : (s.goTo p).fixed = s.fixed := by
  simp only [State.goTo, startPumps_fixed, setState_fixed]

theorem drainBegins_fixed (s : State) : s.drainBegins.fixed = s.fixed := by
  simp only [State.drainBegins]; repeat' split
  all_goals first | rfl | exact goTo_fixed _ _

theorem holdStall_fixed (s : State) : s.holdStall.fixed = s.fixed := by
  simp only [State.holdStall]; split <;> rfl

theorem endDrain_fixed (s : State) : s.endDrain.fixed = s.fixed := by
  simp only [State.endDrain]; split
  · exact goTo_fixed _ _
  · rfl

theorem endWarming_fixed (s : State) : s.endWarming.fixed = s.fixed := by
  simp only [State.endWarming]; split
  · exact goTo_fixed _ _
  · rfl

theorem endResuming_fixed (s : State) : s.endResuming.fixed = s.fixed := by
  simp only [State.endResuming]; repeat' split
  all_goals first | rfl | exact goTo_fixed _ _

theorem watchSettle_fixed (s : State) : s.watchSettle.fixed = s.fixed := by
  simp only [State.watchSettle]; split <;> rfl

theorem profileChanged_fixed (s : State) : s.profileChanged.fixed = s.fixed := by
  simp only [State.profileChanged, checkOvertemps_fixed, watchProbe_fixed, retargetPumps_fixed]

theorem switchProfile_fixed (s : State) : s.switchProfile.fixed = s.fixed := by
  simp only [State.switchProfile]; split
  · rw [profileChanged_fixed]; rfl
  · rfl

theorem followAdmit_fixed (edge : Bool) (s : State) : (s.followAdmit edge).fixed = s.fixed := by
  simp only [State.followAdmit]; repeat' split
  all_goals rfl

theorem followAlarms_fixed (s : State) : s.followAlarms.fixed = s.fixed := rfl

theorem transitions_fixed (s : State) : s.transitions.fixed = s.fixed := by
  simp only [State.transitions, switchProfile_fixed, endResuming_fixed, endWarming_fixed, watchSettle_fixed, endDrain_fixed,
    watchProbe_fixed, followInhibit_fixed]

end Sys2Proof.Machine
end

