-- ==== Sys2Proof/Tests/Slice0.lean ====
section
/-! SUPPORT. Tests of the model: the refusals of WellFormed, the manual's worked cases, and for each statement of
Certificates/Slice0/Obligations.lean that has hypotheses a concrete state and operands that meet them, clause by clause. -/

namespace Sys2Proof.Tests

open Sys2Proof Sys2Proof.Machine

/-! ## States the tests start from -/

/-- The example map of Table 1.7. -/
def map : StationMap := ⟨400, 1000, 5000, 5000, 9000, 9000, 13000, 13500, 14500, 15200, 300, 16500, 200⟩

/-- Profile 1 of Table 3.9, and a recipe that names it. -/
def profile : Profile := ⟨1200, 1500, 1600, 2600, 50, 400, 600, 10, 25, 60, 120⟩
def recipe : Recipe := ⟨List.replicate 8 0x41#8, 1, 640, 0x03#8, 50, 50, 2000, 6000, 1000, 1500, 600⟩

def heater (t : Int) : Heater := { Heater.initial 150 1000 300 with sample := .valid t }
def running (speed : Nat) : PumpState := { PumpState.initial true with stage := .running, reference := speed, target := speed }

/-- A machine in a process state: the map of Table 1.7, profile 1 active and settled, recipe 3 LOADED and the default, the pot
molten and both pumps up. -/
def machine (p : ProcState) : State :=
  { State.reset with
    ctr := { State.reset.ctr with map := map, mapValid := true }
    adu := { State.reset.adu with default := some 3 }
    rps := { State.reset.rps with
      profiles := State.reset.rps.profiles.set 1 (some profile), recipes := State.reset.rps.recipes.set 3 (some recipe)
      active := some 1, settle := .settled }
    hcu := { State.reset.hcu with ch := ⟨heater 1205, heater 1498, heater 1598, heater 2603⟩ }
    wpu := { State.reset.wpu with molten := true, orderUp := true, pumps := ⟨running 400, running 600⟩, notReadySeen := false }
    psc := ⟨p, false⟩ }

/-- A record whose head is at HWM 0 less `pos`, bound to recipe 3. -/
def board (pos : Word) (stage : Stage) (length : Option Nat) : BoardRecord where
  tag := some 5001
  recipe := some 3
  profile := some 1
  origin := some .ticket
  entryPos := pos
  length := length
  entryTime := 0
  stage := stage
  flux := .done
  doses := [⟨0, 10, 0⟩, ⟨1, 10, 0⟩]
  sprayed := 0
  marks := ⟨.none, .none, .none⟩
  topTemp := none
  wave := .pending
  contactMs := none
  contactStart := none
  parkTime := 0
  flags := BoardFlags.empty

def withBoards (rs : List BoardRecord) (hwm : Word) (s : State) : State :=
  { s with ctr := { s.ctr with table := rs, hwm := hwm, pos := hwm } }
def withTime (t : Word) (s : State) : State := { s with timeMs := t }
def withTickets (ts : List Ticket) (s : State) : State :=
  { s with adu := { s.adu with queue := ts }, rps := { s.rps with refs := s.rps.refs.set 3 ts.length } }

/-- A port takes a frame of the command at once, as a test. -/
def takes (s : State) (c : Cmd) (p : Port) (pl : List Byte) : Bool :=
  (s.scp.ports.get p).waiting.isNone && (s.scp.ports.get p).answering.isNone && c.permits p && c.lengthOk pl.length &&
    c.available s.psc.state

theorem accepts {s : State} {c : Cmd} {p : Port} {pl : List Byte} (h : takes s c p pl = true) : s.Accepts c p pl := by
  simp only [takes, Bool.and_eq_true, Option.isNone_iff_eq_none] at h
  exact ⟨h.1.1.1.1, h.1.1.1.2, h.1.1.2, h.1.2, h.2⟩

/-! ## WellFormed: each check refuses an ill-formed command -/

theorem test_wellFormed_payload_96 : (Instr.warm .t (List.replicate 96 0)).wellFormed = true := by decide
theorem test_wellFormed_payload_97 : (Instr.warm .t (List.replicate 97 0)).wellFormed = false := by decide
theorem test_wellFormed_known_code : (Instr.unknownCommand .m 0x20#8 []).wellFormed = false := by decide
theorem test_wellFormed_unknown_long : (Instr.unknownCommand .m 0x11#8 (List.replicate 97 0)).wellFormed = false := by decide
theorem test_wellFormed_unknown_code : (Instr.unknownCommand .m 0x11#8 []).wellFormed = true := by decide

/-! ## Worked cases of the manual -/

/-- The CRC of R196 over the digits 1 to 9; the check value of this CRC is generally known. -/
theorem test_crc_digits :
    crc [0x31#8, 0x32#8, 0x33#8, 0x34#8, 0x35#8, 0x36#8, 0x37#8, 0x38#8, 0x39#8] = 0x29B1#16 := by decide +kernel

/-- 5.2.1: zone Z2 at 1462 with I 89,600 and boost 120. -/
theorem test_control_steady : controlStep ⟨40, 12, 850⟩ 850 120 38 89600 = (90056, 566) := by decide
/-- Table 5.3, cold start: the integral is held above the limit. -/
theorem test_control_cold_start : controlStep ⟨40, 12, 850⟩ 850 0 1000 250000 = (250000, 850) := by decide
/-- Table 5.3, overshoot: the integral is held below zero. -/
theorem test_control_overshoot : controlStep ⟨40, 12, 850⟩ 850 0 (-200) 50000 = (50000, 0) := by decide
/-- Table 5.3, small undershoot with boost 120, in HOLD at the default hold limit. -/
theorem test_control_hold : controlStep ⟨40, 12, 850⟩ 300 120 10 50000 = (50120, 300) := by decide

/-- The machine of Table 5.5 before half-cycle 4. -/
def firing4 : State :=
  let ch := fun (power firing : Nat) => { heater 1000 with power := power, firing := firing }
  { machine .warming with hcu := { State.reset.hcu with
    ch := ⟨ch 900 1700, ch 800 1400, ch 700 1100, ch 950 1850⟩, rr := 0 } }

/-- Table 5.5, half-cycle 4: Z1 and Z2 granted, POT capped, RR 2. -/
theorem test_firing_at_the_limit :
    (firing4.halfCycle.hcu.ch.map Heater.firing, firing4.halfCycle.hcu.ch.map Heater.ssr, firing4.halfCycle.hcu.rr) =
      (⟨1600, 1200, 1800, 1999⟩, ⟨true, true, false, false⟩, 2) := by decide

/-- The lane of Table 4.4 with accumulator `a` and `owed` pulses owed to the record at 0, of recipe 3 (D 640, q 40). -/
def spraying (a owed : Nat) (q d : Nat) : State :=
  let s := withBoards [{ board 0 .entering none with flux := .active }] 500 (machine .run)
  { s with
    rps := { s.rps with recipes := s.rps.recipes.set 3 (some { recipe with density := d }) }
    fdu := { s.fdu with
      nozzles := s.fdu.nozzles.set 0 { Nozzle.default with quantum := q }
      lanes := s.fdu.lanes.set 0 ⟨a, owed, some 0, true, .idle⟩ } }

/-- Table 4.4, advances 1 and 3. -/
theorem test_dose_advance : ((((spraying 20000 0 40 640).accumulate 0).fdu.lanes[0]).acc,
    (((spraying 20000 0 40 640).accumulate 0).fdu.lanes[0]).owed,
    (((spraying 4000 0 40 640).accumulate 0).fdu.lanes[0]).acc) = (12000, 1, 36000) := by decide

/-- Table 4.5, advance 3: of 8 pulses 4 are owed and 4 become shortfall. -/
theorem test_dose_saturates : ((((spraying 5000 11 10 1500).accumulate 0).fdu.lanes[0]).acc,
    (((spraying 5000 11 10 1500).accumulate 0).fdu.lanes[0]).owed,
    ((spraying 5000 11 10 1500).accumulate 0).ctr.table.map fun r => (r.doses.map LaneDose.shortfall, r.flags.fluxDeviation)) =
      (0, 15, [([4, 0], true)]) := by decide

/-- 4.6.1: the pulses of a window of 1900 advances. -/
theorem test_pulses_of_window : pulsesOver 40000 32000 1900 = 1520 := by decide

/-- Table 1.7 meets the constraints of R9; with Pp at Pc − g it does not. -/
theorem test_map_sound : map.sound = true ∧ { map with pp := 14200 }.sound = false := by decide

/-- 1.9: at HWM 114201 A's head 14201 overlaps the wave region, which ends at 15500. -/
theorem test_wave_overlap :
    (withBoards [board 100000 .travel (some 2000)] 114201 (machine .run)).inWave (board 100000 .travel (some 2000)) = true ∧
    (withBoards [board 100000 .travel (some 2000)] 114200 (machine .run)).inWave (board 100000 .travel (some 2000)) = false ∧
    (withBoards [board 100000 .travel (some 2000)] 117500 (machine .run)).inWave (board 100000 .travel (some 2000)) = false := by
  decide

/-- Table 10.7. -/
theorem test_verdicts :
    (verdictOf false { BoardFlags.empty with extractionEvent := true },
     verdictOf true { BoardFlags.empty with positionUnsure := true },
     verdictOf false { BoardFlags.empty with speedDeviation := true, fluxDeviation := true },
     verdictOf false { BoardFlags.empty with profileMismatch := true, speedDeviation := true }) =
      (.pass, .lost, .deviated, .reject) := by decide

/-- 7.6: L = −18 with gain 32 gives F = 36. -/
theorem test_feed_low : (machine .run).feedFor (-18) = 36 := by decide

/-- 6.9: at the dip both targets are 150. -/
theorem test_dip_targets : ((machine .run).dipWave.wpu.pumps.map PumpState.target,
    (machine .run).dipWave.wpu.pumps.map PumpState.stage) = (⟨150, 150⟩, ⟨.dipped, .dipped⟩) := by decide

/-- Table 6.7: a ramp of 100 permille/s moves 10 permille each 100 ms. -/
theorem test_ramp_step : ((machine .run).params.rampStep, rampToward 10 150 400, rampToward 10 150 155) = (10, 390, 150) := by
  decide

/-- Table 2.6, row Start: with no ticket and no default designation condition 3 alone fails. -/
theorem test_admission_start :
    { machine .run with adu := { (machine .run).adu with default := none } }.admitConditions =
      [true, true, false, true, true, true, true, true, true] := by decide

/-- 11.9: EXIT and INCIDENT read as H'28. -/
theorem test_event_set : (((machine .run).addEvent .exit).addEvent .incident).scp.ports.l.events = 0x28#6 ∧
    ((machine .run).addEvent .exit).scp.ports.l.attn = true ∧ ((machine .run).addEvent .incident).scp.ports.l.attn = false := by
  decide

/-- 12.0 mA is half of the span of each input; 3.4 mA is invalid. -/
theorem test_current_samples :
    (currentSample 600 12000, currentSample 1500 12000, pyroSample 12000, currentSample 600 3499, currentSample 600 3500) =
      (.valid 300, .valid 750, .valid 1500, .invalid, .valid 0) := by decide

/-- One step of a forward turn with no board counts POS and HWM. -/
theorem test_step_forward : (match step { machine .run with pending := [.encoderCount true false] } with
    | .next t => (t.ctr.pos, t.ctr.hwm, t.pending)
    | _ => (0, 0, [])) = (1, 1, []) := by decide +kernel

/-- ESTOP_N in RUN: TRIP with cause 1 and the incident's value 1. -/
theorem test_estop_trips : (match exec (.estopChange true) (machine .run) with
    | .next t => (t.psc, t.inl.incidents.map Incident.code, t.inl.incidents.map Incident.value)
    | _ => (⟨.standby, false⟩, [], [])) = (⟨.trip .estop, true⟩, [.stateTrip], [some 1]) := by decide +kernel

/-- A READ_BOARD of an empty table is refused with RANGE (H'04). -/
theorem test_read_board_empty : (match exec (.readBoard .l [0#8]) State.reset with
    | .next t => (t.scp.ports.l.answering.map fun b => b.take 4)
    | _ => none) = some [0x5A#8, 0x00#8, 0x04#8, 0x04#8] := by decide +kernel

/-! ## States and operands that meet the hypotheses of the statements -/

def onPort (p : Port) (f : PortState → PortState) (s : State) : State := s.modPort p f
def onLane (l : Fin 8) (u : Lane) (s : State) : State := { s with fdu := { s.fdu with lanes := s.fdu.lanes.set l u } }
def onHood (h : Hood) (f : HoodState → HoodState) (s : State) : State := s.modHood h f

theorem witness_EmptyQueuePassesTenth : (machine .run).pending = [] ∧ (machine .run).tenth < 9 ∧
    9 ≤ { machine .run with tenth := 9 }.tenth := by decide

theorem witness_EveryCommandCompletes : (∀ pins, Instr.halfCycle ≠ .powerOnReset pins) ∧ takesFrame .halfCycle = false :=
  ⟨fun _ h => (by cases h), rfl⟩

/-- An unscheduled board. -/
def loose : BoardRecord := { board 0 .travel (some 2000) with recipe := none, origin := none, tag := none }

/-- A full machine with the ticket of the board in ENTERING reserved, and a step from it. -/
def full : State :=
  withTickets (List.replicate 3 ⟨none, 3⟩) (withBoards (List.replicate 11 loose ++ [board 5000 .entering none]) 5200 (machine .run))

theorem witness_StepKeepsCapacity : full.Capacity ∧ ∃ t, step full = .next t :=
  ⟨⟨by decide, by decide, by decide, by decide, by decide⟩, _, rfl⟩

/-- Three tickets and one record name recipe 3. -/
def counted : State := { full with rps := { full.rps with refs := full.rps.refs.set 3 4 } }

theorem witness_StepKeepsReferenceCounts : counted.RefsCounted ∧ ∃ t, step counted = .next t :=
  ⟨⟨by decide +kernel, by decide +kernel⟩, _, rfl⟩

theorem witness_StepKeepsPumpsAtRestWithoutMelt :
    (machine .run).PumpsNeedMelt ∧ ∃ t, step (machine .run) = .next t :=
  ⟨⟨fun p => by cases p <;> simp [machine, running, PumpState.AtRest, PerPump.get],
    fun h => absurd h (by decide)⟩, _, rfl⟩

theorem witness_StepKeepsHeatersSafe : firing4.HeatersSafe ∧ ∃ t, step firing4 = .next t :=
  ⟨⟨fun c h => absurd h (by cases c <;> decide), fun c => by cases c <;> decide, fun c => by cases c <;> decide,
    fun c => by cases c <;> decide⟩, _, rfl⟩

theorem witness_StepKeepsValvesSafe : (onLane 0 ⟨0, 15, none, false, .holdoff 0⟩ (machine (.trip .estop))).ValvesSafe ∧
    ∃ t, step (onLane 0 ⟨0, 15, none, false, .holdoff 0⟩ (machine (.trip .estop))) = .next t :=
  ⟨⟨fun _ => by decide, by decide⟩, _, rfl⟩

/-- A WAVE hood with FAN_STOP latched, its fan-off count at the limit. -/
def stopped : State := onHood .wave (fun u => { u with fanStop := true, fanOff := 1200 }) (machine .run)

theorem witness_StepKeepsHoodLadder : stopped.HoodsSafe ∧ ∃ t, step stopped = .next t :=
  ⟨fun h => by cases h <;> (refine ⟨?_, ?_, ?_, ?_, ?_, ?_⟩ <;> decide), _, rfl⟩

/-- A machine in TRIP, its settle UNSETTLED. -/
def tripped : State :=
  { machine (.trip .estop) with rps := { (machine (.trip .estop)).rps with settle := .unsettled } }

theorem witness_StepKeepsLinesTrue : tripped.RefsCounted ∧ tripped.AdmitFollows ∧ tripped.InhibitFollows ∧
    tripped.SettleHeld ∧ ∃ t, step tripped = .next t :=
  ⟨⟨by decide, by decide⟩, show _ = _ by decide, show _ = _ by decide, fun _ => rfl, _, rfl⟩

theorem witness_QuietReactionsOnlyFollowLines : (machine .run).fdu.inhibit = (machine .run).inhibitCause ∧
    (machine .run).lvu.measuring = false ∧ ¬((machine .run).psc.state = .drain ∧ (machine .run).ctr.table = []) ∧
    (machine .run).settleOk = true ∧
    ¬((machine .run).psc.state = .warming ∧ (machine .run).rps.settle = .settled ∧ (machine .run).wpu.molten = true) ∧
    (∀ q, (machine .run).psc.state ≠ .hold .resuming q) ∧ (machine .run).switchTo = none :=
  ⟨by decide, by decide, by decide, by decide, by decide, fun q h => (by cases h), by decide⟩

def lit (on : Bool) (s : State) : State := { s with adu := { s.adu with admitOn := on } }
def probing (st : ProbeStage) (steps pace contact : Nat) : State :=
  { machine .run with lvu := { (machine .run).lvu with probe := st, steps := steps, pace := pace, contactTimer := contact } }
/-- A machine whose default recipe names profile 2, while profile 1 is active. -/
def changing : State :=
  { machine .ready with rps := { (machine .ready).rps with
    profiles := (machine .ready).rps.profiles.set 2 (some profile)
    recipes := (machine .ready).rps.recipes.set 3 (some { recipe with profile := 2 }) } }
/-- FLUX_PRESSURE latched with one board ACTIVE on lane 0. -/
def cut : State :=
  let s := withBoards [{ board 0 .travel (some 2000) with flux := .active }] 900 (machine .run)
  { s with fdu := { s.fdu with fluxPressure := true, lanes := s.fdu.lanes.set 0 ⟨20000, 3, some 0, true, .idle⟩ } }

/-- FLUX_PRESSURE latched with one board DONE that still owes pulses on lane 0. -/
def cutDone : State :=
  let s := withBoards [{ board 0 .travel (some 2000) with flux := .done }] 900 (machine .run)
  { s with fdu := { s.fdu with fluxPressure := true, lanes := s.fdu.lanes.set 0 ⟨0, 3, some 0, false, .idle⟩ } }

theorem witness_QuietReactionsOnlyFollowLines_owing : cutDone.inhibitCause = some .cut ∧ cutDone.fdu.inhibit ≠ some .cut ∧
    cutDone.ctr.table.any (fun r => r.flux == .done && (cutDone.fdu.lanes[0]).owner == some r.entryPos) = true ∧
    0 < (cutDone.fdu.lanes[0]).owed ∧ cutDone.cutCount = 1 := by decide

theorem witness_QuietReactionsOnlyFollowLines_admit : (lit true (machine .standby)).adu.admitOn = true ∧
    (lit true (machine .standby)).admitHolds = false ∧ (machine .standby).psc.state.isTrip = false ∧
    (machine .standby).params.admitGrace ≠ 0 ∧ (machine .run).adu.admitOn = false ∧ (machine .run).admitHolds = true := by decide

theorem witness_QuietReactionsOnlyFollowLines_moves : (machine .drain).psc.state = .drain ∧ (machine .drain).ctr.table = [] ∧
    (machine .drain).nextProfile = (machine .drain).rps.active ∧ (machine .warming).psc.state = .warming ∧
    (machine .warming).rps.settle = .settled ∧ (machine .warming).settleOk = true ∧ (machine .warming).wpu.molten = true ∧
    (machine (.hold .resuming .drain)).psc.state = .hold .resuming .drain ∧
    (machine (.hold .resuming .drain)).waveReady = true ∧ changing.psc.state = .ready ∧ changing.ctr.table = [] ∧
    changing.nextProfile = some 2 ∧ changing.rps.active ≠ some 2 := by decide

theorem witness_QuietReactionsOnlyFollowLines_faults :
    ((machine .run).modCh .z1 fun u => { u with sample := .valid 1149 }).rps.settle ≠ .unsettled ∧
    ((machine .run).modCh .z1 fun u => { u with sample := .valid 1149 }).settleOk = false ∧ cut.inhibitCause = some .cut ∧
    cut.fdu.inhibit ≠ some .cut ∧ cut.ctr.table.any (fun r => r.flux == .active) = true ∧
    (probing .descending 200 0 0).lvu.measuring = true ∧
    { (probing .descending 200 0 0).wpu with molten := false }.molten = false := by decide

/-! ### The ports -/

theorem witness_FramesAreCheckedInOrder : (machine .run).scp.ports.t.waiting = none ∧
    (machine .run).scp.ports.t.answering = none ∧ commandOf 0x11#8 = none ∧ Cmd.warm.permits .l = false ∧
    Cmd.warm.permits .t = true ∧ Cmd.warm.lengthOk 1 = false ∧ Cmd.warm.lengthOk 0 = true ∧
    Cmd.warm.available (machine .run).psc.state = false ∧ (machine .standby).Accepts .warm .t [] :=
  ⟨rfl, rfl, rfl, rfl, rfl, rfl, rfl, rfl, accepts (by decide)⟩

def answeringT : State := onPort .t (fun u => { u with answering := some [0x5A#8] }) (machine .run)
def waitingT : State := onPort .t (fun u => { u with waiting := some ⟨0x33#8, []⟩ }) answeringT

theorem witness_FramesWaitForTheResponse : (waitingT.scp.ports.get .t).waiting = some ⟨Cmd.stop.code, []⟩ ∧
    (waitingT.scp.ports.get .t).answering = some [0x5A#8] ∧ (answeringT.scp.ports.get .t).waiting = none ∧
    (answeringT.scp.ports.get .t).answering = some [0x5A#8] ∧ Cmd.stop.permits .t = true ∧ Cmd.stop.lengthOk 0 = true ∧
    Cmd.stop.available waitingT.psc.state = true := by decide

/-- Port T in a frame with the given bytes received, the last `gap` tenths ago. -/
def inFrame (bs : List Byte) (gap : Nat) : State := onPort .t (fun u => { u with rx := some bs, gap := gap }) (machine .run)

theorem witness_BytesFormFrames_hunting : ((machine .run).scp.ports.get .t).rx = none ∧ (0xA4#8 : Byte) ≠ 0xA5#8 := by decide
theorem witness_BytesFormFrames_length : ((inFrame [] 100).scp.ports.get .t).rx = some [] ∧
    ((inFrame [] 100).scp.ports.get .t).gap ≤ 100 ∧ 96 < (97#8 : Byte).toNat ∧ byteAt ([] ++ [96#8]) 0 ≤ 96 ∧
    ([] ++ [96#8] : List Byte).length ≠ byteAt ([] ++ [96#8]) 0 + 4 := by decide
/-- The frame of STOP (LEN 0, CMD H'33) and its CRC; with another last byte the CRC fails. -/
theorem witness_BytesFormFrames_crc :
    (crcBytes (put1 0 ++ [Cmd.stop.code] ++ [])).length = 2 ∧
    ∃ x y : Byte, crcBytes (put1 0 ++ [Cmd.stop.code] ++ []) = [x, y] ∧
      [0x00#8, 0x33#8, x] ++ [y] = (put1 0 ++ [Cmd.stop.code] ++ []) ++ crcBytes (put1 0 ++ [Cmd.stop.code] ++ []) ∧
      byteAt ([0x00#8, 0x33#8, x] ++ [y + 1]) 0 ≤ 96 ∧
      ([0x00#8, 0x33#8, x] ++ [y + 1]).length = byteAt ([0x00#8, 0x33#8, x] ++ [y + 1]) 0 + 4 ∧
      frameSound ([0x00#8, 0x33#8, x] ++ [y + 1]) = false :=
  ⟨by decide, _, _, rfl, by decide +kernel, by decide +kernel, by decide +kernel, by decide +kernel⟩
theorem witness_BytesFormFrames_timeout : ((inFrame [0#8] 101).scp.ports.get .t).rx = some [0#8] ∧
    100 < ((inFrame [0#8] 101).scp.ports.get .t).gap := by decide

theorem witness_reads : (machine .run).Accepts .readStatus .m [] ∧ (machine .run).Accepts .readAdmission .t [] ∧
    (machine .run).Accepts .readTrack .l [] ∧ (machine .run).Accepts .readBoard .l [0#8] ∧
    (machine .run).Accepts .readGeometry .l [] ∧ (machine .run).Accepts .readProfile .m [7#8] ∧
    (machine .run).Accepts .readRecipe .m [31#8] ∧ (machine .run).Accepts .readFlux .m [255#8] ∧
    (machine .run).Accepts .readHeater .m [] ∧ (machine .run).Accepts .readPumps .t [] ∧
    (machine .run).Accepts .readLevel .t [] ∧ (machine .run).Accepts .readExtraction .t [] ∧
    (machine .run).Accepts .readAlarms .t [] ∧ (machine .run).Accepts .readParam .l [1#8, 0#8] ∧
    (machine .run).Accepts .peekOutcome .l [] ∧ (machine .run).Accepts .readIncidents .l [0#8] := by
  refine ⟨?_, ?_, ?_, ?_, ?_, ?_, ?_, ?_, ?_, ?_, ?_, ?_, ?_, ?_, ?_, ?_⟩ <;> exact accepts (by decide)

/-! ### The Conveyor Tracker and the Admission Unit -/

def jogged (e : Nat) (s : State) : State := { s with ctr := { s.ctr with pos := s.ctr.hwm - BitVec.ofNat 32 e } }

theorem witness_EncoderCountMovesPosition : turnOf false false false false = .none ∧ turnOf false false false true = .reverse ∧
    ((jogged 499 (machine .run)).ctr.hwm - ((jogged 499 (machine .run)).ctr.pos - 1)).toNat ≠ 501 ∧
    ((jogged 500 (machine .run)).ctr.hwm - ((jogged 500 (machine .run)).ctr.pos - 1)).toNat = 501 ∧
    turnOf false false true false = .forward ∧
    past ((jogged 1 (machine .run)).ctr.pos + 1) (jogged 1 (machine .run)).ctr.hwm = false ∧
    past ((machine .run).ctr.pos + 1) (machine .run).ctr.hwm = true := by decide

/-- A board that the next advance takes past 6000, out of the exit, past Px + w in TRAVEL, or to Pc − g. -/
def overlong : State := withBoards [board 0 .entering none] 6000 (machine .run)
def leaving (blocked : Bool) : State :=
  let s := withBoards [board 100000 .exiting (some 2000)] 118700 (machine .run)
  { s with ctr := { s.ctr with exitBlocked := blocked } }
def vanished : State := withBoards [board 100000 .travel (some 2000)] 116700 (machine .run)
def nearWave : State := withBoards [board 100000 .travel (some 2000)] 114199 (probing .descending 200 0 0)

theorem witness_EncoderCountMovesPosition_calm : (machine .run).ctr.mapValid = true ∧ nearWave.KeysDiffer ∧
    nearWave.ctr.table.all (fun r => !nearWave.strays r) = true ∧
    nearWave.ctr.table.countP (fun r => nearWave.nextTail r == some nearWave.ctr.map.waveOut) ≤ nearWave.ctr.occupancy ∧
    State.reset.ctr.mapValid = false :=
  ⟨by decide, show List.Nodup _ by decide, by decide, by decide, by decide⟩

theorem witness_EncoderCountMovesPosition_strays : overlong.KeysDiffer ∧
    (board 0 .entering none).stage = .entering ∧ overlong.nextHead (board 0 .entering none) = 6001 ∧
    (leaving true).nextTail (board 100000 .exiting (some 2000)) = some (16500 + 200 + 1) ∧ (leaving true).ctr.exitBlocked = true ∧
    (leaving false).ctr.exitBlocked = false ∧
    vanished.ctr.table.find? (fun x => x.stage == .travel) = some (board 100000 .travel (some 2000)) ∧
    (16500 : Int) + 200 < vanished.nextHead (board 100000 .travel (some 2000)) ∧ (vanished).ctr.table.length ≤ 2 ∧
    nearWave.nextHead (board 100000 .travel (some 2000)) = nearWave.ctr.map.waveIn ∧ nearWave.lvu.measuring = true :=
  ⟨show List.Nodup _ by decide, by decide, by decide, by decide, by decide, by decide, by decide, by decide, by decide,
    by decide, by decide⟩

/-- A board that has stood still for `n` ms. -/
def stalled (n : Nat) : State :=
  let s := withTime 3000 (withBoards [board 0 .travel (some 2000)] 2500 (machine .run))
  { s with ctr := { s.ctr with stallTimer := n } }

theorem witness_SpeedWindowsAndStall : (stalled 1899).timeMs.toNat % 100 = 0 ∧
    ((stalled 1899).psc.state.runOrDrain && !(stalled 1899).ctr.table.isEmpty) = true ∧
    (stalled 1899).ctr.stallTimer + 100 < (stalled 1899).params.stallTimeout ∧ (stalled 1899).ctr.counted = false ∧
    (stalled 2000).params.stallTimeout ≤ (stalled 2000).ctr.stallTimer ∧ (stalled 2000).psc.state = .run := by decide

theorem witness_SpeedWindowsAndStall_at_window_end : (stalled 1900).timeMs.toNat % 100 = 0 ∧
    ((stalled 1900).psc.state.runOrDrain && !(stalled 1900).ctr.table.isEmpty) = true ∧
    (stalled 1900).params.stallTimeout ≤ (stalled 1900).ctr.stallTimer + 100 ∧ (stalled 1900).ctr.counted = false := by decide

/-- The machine with 11 boards and 4 outcomes less one, at a released entry sensor with the grace running. -/
def nearFull : State :=
  let s := withBoards (List.replicate 11 (board 0 .travel (some 2000))) 30000 (machine .run)
  { s with adu := { s.adu with grace := some 0 } }

theorem witness_AdmittedBoardIsBound : nearFull.ctr.entryBlocked = false ∧ nearFull.ctr.excursion = 0 ∧
    nearFull.ctr.mapValid = true ∧ nearFull.boardEntering = false ∧ nearFull.ctr.table.length < 12 ∧
    nearFull.ctr.table.length + nearFull.oq.outcomes.length < 16 ∧ nearFull.adu.grace.isSome = true ∧
    (withTickets [⟨some 1, 3⟩] nearFull).adu.queue = ⟨some 1, 3⟩ :: [] ∧ nearFull.adu.queue = [] ∧
    nearFull.adu.default = some 3 := by decide

def overfull : State := withBoards (List.replicate 12 (board 0 .travel (some 2000))) 30000 (machine .run)

theorem witness_OtherEntryEdges : (machine .run).ctr.entryBlocked = false ∧ 0 < (jogged 1 (machine .run)).ctr.excursion ∧
    State.reset.ctr.excursion = 0 ∧ State.reset.ctr.mapValid = false ∧ overfull.ctr.excursion = 0 ∧
    overfull.ctr.mapValid = true ∧ overfull.boardEntering = false ∧ overfull.hasSpace = false ∧
    overfull.psc.state.isTrip = false ∧ (machine .run).boardEntering = false ∧ (machine .run).hasSpace = true ∧
    (machine .run).admits = false := by decide

theorem witness_OtherEntryEdges_reblocked : (overlong.ctr.entryBlocked = false ∧ overlong.ctr.excursion = 0) ∧
    overlong.ctr.mapValid = true ∧ overlong.youngest? = some (board 0 .entering none) ∧
    (board 0 .entering none).stage = .entering := by decide

/-- A board in ENTERING over the entry sensor with its head at `n`. -/
def entering (n : Word) (o : Origin) : State :=
  let s := withBoards [{ board 0 .entering none with origin := some o }] n (machine .run)
  { s with ctr := { s.ctr with entryBlocked := true } }

theorem witness_EntryTrailingEdgeMeasures : (entering 499 .ticket).ctr.entryBlocked = true ∧
    (entering 499 .ticket).ctr.excursion = 0 ∧
    (entering 499 .ticket).youngest? = some (board 0 .entering none) ∧
    ((entering 499 .ticket).ctr.hwm - (board 0 .entering none).entryPos).toNat < 500 ∧
    (board 0 .entering none).origin = some .ticket ∧ (board 0 .entering none).recipe = some 3 ∧
    (entering 499 .default).youngest? = some { board 0 .entering none with origin := some .default } ∧
    500 ≤ ((entering 500 .ticket).ctr.hwm - (board 0 .entering none).entryPos).toNat ∧
    0 < (jogged 1 (entering 500 .ticket)).ctr.excursion ∧
    { (machine .run) with ctr := { (machine .run).ctr with entryBlocked := true } }.boardEntering = false := by decide

/-- An UNSCHEDULED board in ENTERING over the entry sensor. -/
def stray : State :=
  let s := withBoards [{ loose with stage := .entering, length := none }] 499 (machine .run)
  { s with ctr := { s.ctr with entryBlocked := true } }

theorem witness_EntryTrailingEdgeMeasures_unscheduled : stray.ctr.entryBlocked = true ∧ stray.ctr.excursion = 0 ∧
    stray.youngest? = some { loose with stage := .entering, length := none } ∧ loose.origin = none ∧
    (stray.ctr.hwm - loose.entryPos).toNat < 500 := by decide

def atExit (hwm : Word) (st : Stage) (blocked : Bool) : State :=
  let s := withBoards [board 100000 st (some 2000)] hwm (machine .run)
  { s with ctr := { s.ctr with exitBlocked := blocked } }

theorem witness_ExitLeadingEdgeMatches : (atExit 116300 .travel false).ctr.exitBlocked = false ∧
    (atExit 116300 .travel false).ctr.excursion = 0 ∧ (atExit 116300 .travel false).exiting? = none ∧
    (atExit 116300 .travel false).oldestTravel? = some (board 100000 .travel (some 2000)) ∧
    (16500 : Int) - 200 ≤ (atExit 116300 .travel false).head (board 100000 .travel (some 2000)) ∧
    (atExit 116700 .travel false).head (board 100000 .travel (some 2000)) ≤ (16500 : Int) + 200 ∧
    (atExit 116299 .travel false).head (board 100000 .travel (some 2000)) < (16500 : Int) - 200 ∧
    0 < (jogged 1 (atExit 116300 .travel false)).ctr.excursion := by decide

/-- A board still in EXITING with the next one before the exit sensor. -/
def following (hwm : Word) : State :=
  withBoards [board 97000 .exiting (some 2000), board 100000 .travel (some 2000)] hwm (machine .run)

theorem witness_ExitLeadingEdgeMatches_exiting : (following 116300).ctr.exitBlocked = false ∧
    (following 116300).ctr.excursion = 0 ∧ (following 116300).exiting? = some (board 97000 .exiting (some 2000)) ∧
    (following 116300).KeysDiffer ∧ (following 116300).oldestTravel? = some (board 100000 .travel (some 2000)) ∧
    (16500 : Int) - 200 ≤ (following 116300).head (board 100000 .travel (some 2000)) ∧
    (following 116299).head (board 100000 .travel (some 2000)) < (16500 : Int) - 200 :=
  ⟨by decide, by decide, by decide, show List.Nodup _ by decide, by decide, by decide, by decide⟩

theorem witness_ExitTrailingEdgeFormsOutcome : (atExit 118500 .exiting true).ctr.exitBlocked = true ∧
    (atExit 118500 .exiting true).ctr.excursion = 0 ∧
    (atExit 118500 .exiting true).exiting? = some (board 100000 .exiting (some 2000)) ∧
    (atExit 118500 .exiting true).record? 100000 = some (board 100000 .exiting (some 2000)) ∧
    (board 100000 .exiting (some 2000)).flux ≠ .pending ∧ (board 100000 .exiting (some 2000)).flux ≠ .active ∧
    ∀ l : Fin 8, ((atExit 118500 .exiting true).fdu.lanes[l]).owner ≠ some 100000 := by decide

theorem witness_ExitTrailingEdgeFormsOutcome_unused : 0 < (jogged 1 (atExit 118500 .exiting true)).ctr.excursion ∧
    (atExit 118500 .travel true).ctr.exitBlocked = true ∧ (atExit 118500 .travel true).ctr.excursion = 0 ∧
    (atExit 118500 .travel true).exiting? = none ∧
    verdictOf false { BoardFlags.empty with parked := true } ≠ .deviated := by decide

/-- ADD_TICKET requests: recipe 3 with tag 5001; recipe 32; recipe 4, which is EMPTY. -/
def addRequest (recipe : Byte) : List Byte := [1#8, 0#8, 0#8, 0x13#8, 0x89#8, recipe]

theorem witness_TicketsJoinAndFlush : (machine .run).Accepts .addTicket .m (addRequest 32) ∧ 31 < byteAt (addRequest 32) 5 ∧
    1 < byteAt (2#8 :: addRequest 3) 0 ∧ (machine .run).Accepts .addTicket .m (addRequest 4) ∧
    (4 : Fin 32).val = byteAt (addRequest 4) 5 ∧ byteAt (addRequest 4) 0 ≤ 1 ∧ (machine .run).rps.recipes[4] = none ∧
    (withTickets [⟨some 5001, 3⟩] (machine .run)).Accepts .addTicket .m (addRequest 3) ∧
    (3 : Fin 32).val = byteAt (addRequest 3) 5 ∧ (machine .run).rps.recipes[3] ≠ none ∧
    (∃ k ∈ (withTickets [⟨some 5001, 3⟩] (machine .run)).adu.queue, k.tag = some (BitVec.ofNat 32 (longAt (addRequest 3) 1))) ∧
    (∀ k ∈ full.adu.queue, k.tag ≠ some 7) ∧ (∀ r ∈ full.ctr.table, r.tag ≠ some 7) ∧
    4 ≤ full.adu.queue.length + (if full.placeReserved then 1 else 0) ∧
    (withTickets [⟨none, 3⟩, ⟨none, 3⟩, ⟨none, 3⟩] (machine .run)).adu.queue.length +
      (if (withTickets [⟨none, 3⟩, ⟨none, 3⟩, ⟨none, 3⟩] (machine .run)).placeReserved then 1 else 0) < 4 ∧
    (machine .run).Accepts .flushTickets .t [] :=
  ⟨accepts (by decide), by decide, by decide, accepts (by decide), by decide, by decide, by decide, accepts (by decide),
    by decide, by decide, by decide, by decide, by decide, by decide, by decide, accepts (by decide)⟩

theorem witness_WithdrawTicketRemovesYoungest : ((machine .run).scp.ports.get .m).waiting = none ∧
    ((machine .run).scp.ports.get .m).answering = none ∧ (machine .run).adu.queue = [] ∧
    (withTickets [⟨none, 3⟩, ⟨some 7, 3⟩] (machine .run)).adu.queue = [⟨none, 3⟩] ++ [⟨some 7, 3⟩] := by decide

theorem witness_SetDefaultReplacesDesignation : ((machine .run).scp.ports.get .t).waiting = none ∧
    ((machine .run).scp.ports.get .t).answering = none ∧ [0xFF#8].length = 1 ∧ byteAt [0xFF#8] 0 = 255 ∧
    byteAt [32#8] 0 ≠ 255 ∧ 31 < byteAt [32#8] 0 ∧ (31 : Fin 32).val = byteAt [31#8] 0 ∧
    (machine .run).rps.recipes[(31 : Fin 32)] = none ∧ (3 : Fin 32).val = byteAt [3#8] 0 ∧
    (machine .run).rps.recipes[(3 : Fin 32)] ≠ none := by decide

/-- The request of SET_GEOMETRY for Table 1.7, and one whose Pf is 0. -/
def mapRequest (pf : Nat) : List Byte :=
  put2 pf ++ put2 1000 ++ put2 5000 ++ put2 5000 ++ put2 9000 ++ put2 9000 ++ put2 13000 ++ put2 13500 ++ put2 14500 ++
    put2 15200 ++ put2 300 ++ put2 16500 ++ put2 200

theorem witness_SetGeometryStoresMap : (machine .ready).Accepts .setGeometry .m (mapRequest 400) ∧
    (machine .ready).ctr.table = [] ∧ requestMap (mapRequest 400) = map ∧ map.sound = true ∧
    (requestMap (mapRequest 0)).sound = false ∧
    (withBoards [board 0 .travel (some 2000)] 2500 (machine .ready)).ctr.table ≠ [] :=
  ⟨accepts (by decide +kernel), by decide +kernel, by decide +kernel, by decide +kernel, by decide +kernel, by decide +kernel⟩

/-! ### The Recipe and Profile Store -/

/-- LOAD_PROFILE of profile `i` with the values of Table 3.9 and the given speed band. -/
def profileRequest (i lo hi : Byte) : List Byte :=
  [i] ++ put2 1200 ++ put2 1500 ++ put2 1600 ++ put2 2600 ++ put1 50 ++ put2 400 ++ put2 600 ++ [lo, hi] ++ put2 60 ++ put2 120

theorem witness_ProfileCommands : (1 : Fin 8).val = byteAt (profileRequest 1 10 25) 0 ∧
    (machine .run).Accepts .loadProfile .t (profileRequest 1 10 25) ∧ (machine .run).rps.active = some 1 ∧
    (machine .run).psc.state.runOrDrain = true ∧ (machine .ready).psc.state.runOrDrain = false ∧
    (requestProfile (profileRequest 2 25 24)).clamped.speedMax < (requestProfile (profileRequest 2 25 24)).clamped.speedMin ∧
    (requestProfile (profileRequest 1 10 10)).clamped.speedMin ≤ (requestProfile (profileRequest 1 10 10)).clamped.speedMax ∧
    (machine .run).rps.active ≠ some 2 ∧ (machine .ready).Accepts .eraseProfile .t [1#8] ∧
    ((machine .ready).rps.recipes[(3 : Fin 32)]).map Recipe.profile = some 1 ∧
    (∀ j : Fin 32, ((machine .ready).rps.recipes[j]).map Recipe.profile ≠ some 2) ∧
    (machine .ready).Accepts .selectProfile .t [1#8] ∧ (machine .ready).rps.profiles[(1 : Fin 8)] ≠ none ∧
    (machine .ready).rps.profiles[(2 : Fin 8)] = none :=
  ⟨by decide, accepts (by decide), by decide, by decide, by decide, by decide, by decide, by decide, accepts (by decide),
    by decide, by decide, accepts (by decide), by decide, by decide⟩

theorem witness_ProfileCommands_range : 7 < byteAt (profileRequest 8 10 25) 0 ∧
    (machine .ready).Accepts .loadProfile .t (profileRequest 8 10 25) ∧ 7 < byteAt [8#8] 0 ∧
    (machine .ready).Accepts .eraseProfile .t [8#8] ∧ (machine .ready).Accepts .selectProfile .t [8#8] :=
  ⟨by decide, accepts (by decide), by decide, accepts (by decide), accepts (by decide)⟩

/-- LOAD_RECIPE of recipe 5 with profile `q`, first character `x` and the values of `recipe`. -/
def recipeRequest (q x : Byte) : List Byte :=
  [5#8, x] ++ List.replicate 7 0x41#8 ++ [q] ++ put2 640 ++ [0x03#8] ++ put2 50 ++ put2 50 ++ put2 2000 ++ put2 6000 ++
    put2 1000 ++ put2 1500 ++ put2 600

theorem witness_RecipeCommands : (machine .run).Accepts .loadRecipe .t (recipeRequest 1 0x20) ∧
    (machine .run).Accepts .eraseRecipe .t [3#8] ∧ (3 : Fin 32).val = byteAt [3#8] 0 ∧ (machine .run).adu.default = some 3 ∧
    31 < byteAt [32#8] 0 ∧ (5 : Fin 32).val = byteAt (recipeRequest 1 0x20) 0 ∧ (machine .run).rps.refs[(5 : Fin 32)] = 0 ∧
    (machine .run).adu.default ≠ some 5 ∧ (∀ q : Fin 8, q.val = byteAt (recipeRequest 2 0x20) 9 → (machine .run).rps.profiles[q] = none) ∧
    (1 : Fin 8).val = byteAt (recipeRequest 1 0x20) 9 ∧ (machine .run).rps.profiles[(1 : Fin 8)] ≠ none ∧
    (∀ b ∈ (requestRecipe (recipeRequest 1 0x20) 1).name, 0x20 ≤ b.toNat ∧ b.toNat ≤ 0x7E) ∧
    ¬(∀ b ∈ (requestRecipe (recipeRequest 1 0x1F) 1).name, 0x20 ≤ b.toNat ∧ b.toNat ≤ 0x7E) :=
  ⟨accepts (by decide), accepts (by decide), by decide, by decide, by decide, by decide, by decide, by decide, by decide,
    by decide, by decide, by decide, by decide⟩

/-- The settle of 60 s run out, and the grace of 200 ms run out. -/
def settling : State := { machine .warming with rps := { (machine .warming).rps with settle := .settling, settleTimer := 60000 } }

theorem witness_EmptyQueuePassesTenth_settle : settling.pending = [] ∧ settling.rps.settle = .settling ∧
    settling.activeProfile = some profile ∧ 9 ≤ { settling with tenth := 9 }.tenth ∧
    (machine .run).rps.settle ≠ .settling := by decide

theorem witness_SettleAndGraceEnd : settling.rps.settle = .settling ∧ settling.settleOk = true ∧
    settling.activeProfile = some profile ∧ profile.settleTime * 1000 ≤ settling.rps.settleTimer ∧
    { settling.adu with grace := some 200 }.grace = some 200 ∧ settling.params.admitGrace ≤ 200 := by decide

/-! ### The Flux Dosing Unit -/

theorem witness_FluxCommands : (machine .ready).Accepts .setNozzle .t [8#8, 40#8, 0#8, 20#8, 20#8] ∧
    7 < byteAt [8#8, 40#8, 0#8, 20#8, 20#8] 0 ∧ 1 < byteAt [7#8, 40#8, 2#8, 20#8, 20#8] 2 ∧
    (7 : Fin 8).val = byteAt [7#8, 40#8, 1#8, 20#8, 20#8] 0 ∧ byteAt [7#8, 40#8, 1#8, 20#8, 20#8] 2 ≤ 1 ∧
    0 < ((onLane 7 ⟨0, 1, none, false, .idle⟩ (machine .ready)).fdu.lanes[(7 : Fin 8)]).owed ∧
    ((machine .ready).fdu.lanes[(7 : Fin 8)]).owed = 0 ∧ (machine .ready).Accepts .refillFlux .t [0#8, 3#8, 0xD0#8, 0x90#8] ∧
    (machine .ready).params.reservoirLow ≤ longAt [0#8, 3#8, 0xD0#8, 0x90#8] 0 ∧
    longAt [0#8, 3#8, 0xD0#8, 0x8F#8] 0 < (machine .ready).params.reservoirLow ∧ (machine .ready).fdu.reservoirLow = false ∧
    (machine .ready).Accepts .ackFlux .t [] :=
  ⟨accepts (by decide), by decide, by decide, by decide, by decide, by decide, by decide, accepts (by decide), by decide,
    by decide, by decide, accepts (by decide)⟩

theorem witness_ValvePhasesEnd :
    ((onLane 7 ⟨0, 0, none, false, .on 0 20⟩ (machine .run)).fdu.lanes[(7 : Fin 8)]).gen = .on 0 20 ∧
    ((onLane 7 ⟨0, 0, none, false, .holdoff 0⟩ (machine .run)).fdu.lanes[(7 : Fin 8)]).gen = .holdoff 0 ∧
    ((onLane 7 ⟨0, 0, none, false, .holdoff 0⟩ (machine .run)).fdu.lanes[(7 : Fin 8)]).owed = 0 ∧
    0 < ((onLane 7 ⟨0, 1, none, false, .holdoff 0⟩ (machine .run)).fdu.lanes[(7 : Fin 8)]).owed ∧
    (machine .run).psc.state.isTrip = false ∧ (machine .run).fdu.inhibit ≠ some .cut := by decide

/-- A board 0 of recipe 3 with flux status `f` and length `l` whose next advance is `hwm` + 1, lane 0 as given. -/
def atBar (f : FluxStatus) (l : Option Nat) (hwm : Word) (u : Lane) : State :=
  onLane 0 u (withBoards [{ board 0 .travel l with flux := f }] hwm (machine .run))
def barBoard (f : FluxStatus) : BoardRecord := { board 0 .travel (some 2000) with flux := f }

theorem witness_ValvePhasesEnd_advance :
    (atBar .pending (some 2000) 449 ⟨0, 2, some 7, false, .idle⟩).fdu.inhibit =
      (atBar .pending (some 2000) 449 ⟨0, 2, some 7, false, .idle⟩).inhibitCause ∧
    (atBar .pending (some 2000) 449 ⟨0, 2, some 7, false, .idle⟩).KeysDiffer ∧
    (atBar .active (some 2000) 900 ⟨0, 2, some 0, true, .idle⟩).ctr.table.all (fun r =>
      !(atBar .active (some 2000) 900 ⟨0, 2, some 0, true, .idle⟩).meetsWindow r) = true ∧
    (atBar .pending (some 2000) 449 ⟨0, 2, some 7, false, .idle⟩).ctr.table.all (fun r =>
      !(atBar .pending (some 2000) 449 ⟨0, 2, some 7, false, .idle⟩).strays r) = true ∧
    (atBar .pending (some 2000) 449 ⟨0, 2, some 7, false, .idle⟩).recipeOf (barBoard .pending) = some recipe ∧
    (atBar .pending (some 2000) 449 ⟨0, 2, some 7, false, .idle⟩).nextHead (barBoard .pending) = 400 + 50 ∧
    (machine .run).psc.state.sprays = true ∧ (machine .warming).psc.state.sprays = false ∧
    (atBar .active (some 2000) 2349 ⟨0, 2, some 0, true, .idle⟩).nextTail (barBoard .active) = some (400 - 50) ∧
    (atBar .pending (some 2000) 2349 ⟨0, 2, some 0, true, .idle⟩).nextHead (barBoard .pending) ≠ 400 + 50 ∧
    ((atBar .pending (some 2000) 449 ⟨0, 2, some 7, false, .idle⟩).fdu.lanes[(0 : Fin 8)]).owed = 2 ∧
    ((atBar .pending (some 2000) 449 ⟨0, 2, some 7, false, .idle⟩).fdu.nozzles[(0 : Fin 8)]).enabled = true :=
  ⟨by decide, show List.Nodup _ by decide, by decide, by decide, by decide, by decide, by decide, by decide, by decide,
    by decide, by decide, by decide⟩

theorem witness_FluxPressureIsQualified : (withTime 100 (machine .run)).timeMs.toNat % 100 = 0 ∧
    { (machine .run).fdu with qualify := 5 }.fluxPressure = false ∧ 5 ≤ { (machine .run).fdu with qualify := 5 }.qualify := by
  decide

/-! ### The Heater Control Unit -/

theorem witness_ControlComputation : (withTime 250 (machine .run)).timeMs.toNat % 250 = 0 ∧ (-500 : Int) ≤ 1650 ∧
    (1650 : Int) ≤ 5000 ∧ (withTime 250 (machine .run)).activeProfile = some profile ∧
    (withTime 250 (machine .run)).controls .z2 = true ∧
    (1650 : Int) ≤ min ((profile.setpoint .z2 : Int) + (machine .run).params.overtempMargin) 4000 := by decide

theorem witness_ControlComputation_marks : (withBoards [board 0 .travel (some 2000)] 2000 (machine .run)).inZone
      (board 0 .travel (some 2000)) .z1 = true ∧
    ((board 0 .travel (some 2000)).marks.get .z1).rank < Mark.low.rank ∧ (1149 : Int) < (profile.setpoint .z1 : Int) - profile.band ∧
    ¬((1150 : Int) < (profile.setpoint .z1 : Int) - profile.band) := by decide

def invalidAt (n : Nat) (c : Channel) : State := (machine .run).modCh c fun u => { u with sample := .invalid, invalid := n }

theorem witness_HeaterFaultsLatch : ((invalidAt 3 .pot).hcu.ch.get .pot).tcOpen = false ∧
    3 ≤ ((invalidAt 3 .pot).hcu.ch.get .pot).invalid ∧ (invalidAt 3 .pot).psc.state.isTrip = false ∧
    (withTime 250 (machine .run)).timeMs.toNat % 250 = 0 ∧ (-501 : Int) < -500 ∧ (5000 : Int) < 5001 ∧
    (machine .run).hcu.mainsSync = false ∧
    25 ≤ ((withTime 25 (machine .run)).timeMs - (withTime 25 (machine .run)).hcu.lastHalf).toNat := by decide

/-- A machine whose Z1 reads `t`, above the limit 1350 of profile 1 where `t` is above it. -/
def sampleZ1 (p : ProcState) (t : Int) : State :=
  (withTime 250 (machine p)).modCh .z1 fun u => { u with sample := .valid t }

theorem witness_HeaterFaultsLatch_overtemp : (-500 : Int) ≤ 1351 ∧ (1351 : Int) ≤ 5000 ∧
    (withTime 250 (machine .run)).activeProfile = some profile ∧ (withTime 250 (machine .run)).heatEn = true ∧
    min ((profile.setpoint .z1 : Int) + (machine .run).params.overtempMargin) 4000 = 1350 ∧
    ((machine .run).hcu.ch.get .z1).overtemp = false ∧ (machine .run).nextProfile = (machine .run).rps.active ∧
    ((sampleZ1 .ready 1351).hcu.ch.get .z1).sample = .valid 1351 ∧
    min ((profile.setpoint .z1 : Int) + ((sampleZ1 .ready 1351).hcu.ch.get .z1).margin) 4000 < 1351 ∧
    (sampleZ1 .ready 1351).Accepts .selectProfile .t [1#8] ∧ (1 : Fin 8).val = byteAt [1#8] 0 ∧
    (sampleZ1 .ready 1351).rps.profiles[(1 : Fin 8)] = some profile ∧ (sampleZ1 .ready 1351).heatEn = true :=
  ⟨by decide, by decide, by decide, by decide, by decide, by decide, by decide, by decide, by decide, accepts (by decide),
    by decide, by decide, by decide⟩

theorem witness_HeaterFaultsLatch_melt : (withTime 250 (machine .run)).timeMs.toNat % 250 = 0 ∧
    (withTime 250 (machine .run)).wpu.molten = true ∧ conversion (some 2399) = .valid 2399 ∧
    (2399 : Int) < (profile.pot : Int) - 4 * (profile.band : Int) ∧ ¬((2400 : Int) < (profile.pot : Int) - 4 * (profile.band : Int)) ∧
    conversion none = .invalid := by decide

theorem witness_HalfCycleArbitration : (machine .run).hcu.edgeSeen = false ∧ (machine .run).hcu.rr < 4 ∧
    4 ≤ ((withTime 4 (machine .run)).timeMs - (withTime 4 (machine .run)).hcu.lastHalf).toNat := by decide

theorem witness_PyroSampleReplacesLatest : (withTime 10 (machine .run)).timeMs.toNat % 10 = 0 := by decide

theorem witness_ParkTimeAccumulates : (withTime 100 (machine (.hold .holding .run))).timeMs.toNat % 100 = 0 ∧
    (withTime 100 (machine (.hold .holding .run))).psc.state = .hold .holding .run := by decide

/-- Z1 with OVERTEMP latched and its latest sample `t`. -/
def hotZ1 (t : Int) : State := (machine .run).modCh .z1 fun u => { u with sample := .valid t, overtemp := true }

theorem witness_AckHeaterClears : (machine .run).Accepts .ackHeater .t [5#8] ∧ 4 < byteAt [5#8] 0 ∧ byteAt [4#8] 0 = 4 ∧
    25 ≤ ((withTime 25 (machine .run)).timeMs - (withTime 25 (machine .run)).hcu.lastHalf).toNat ∧
    ((withTime 24 (machine .run)).timeMs - (withTime 24 (machine .run)).hcu.lastHalf).toNat < 25 ∧
    channelAt (byteAt [0#8] 0) = some .z1 ∧ channelAt (byteAt [3#8] 0) = some .pot ∧
    ((hotZ1 1351).hcu.ch.get .z1).overtemp = true ∧ (hotZ1 1351).overtempLimit .z1 < 1351 ∧
    ((hotZ1 1350).hcu.ch.get .z1).sample = .valid 1350 ∧ ¬(hotZ1 1350).overtempLimit .z1 < 1350 ∧
    ((hotZ1 1350).hcu.ch.get .z1).tcOpen = false :=
  ⟨accepts (by decide), by decide, by decide, by decide, by decide, by decide, by decide, by decide, by decide, by decide,
    by decide, by decide⟩

/-! ### The Wave Pump Unit -/

/-- A POT that has qualified since TIME_MS 0, at TIME_MS `t`, before that instant's sample. -/
def melting (t : Word) : State :=
  let s := withTime t (machine .warming)
  { s with wpu := { s.wpu with molten := false, meltStart := some 0, ripe := none } }
/-- The POT sample of this instant has found the melt timer at the melt hold. -/
def ripe : State := { melting 120000 with wpu := { (melting 120000).wpu with ripe := some 120000 } }
/-- POT_MOLTEN and the melt timer. -/
def melt (s : State) : Bool × Option Word × Option Word := (s.wpu.molten, s.wpu.meltStart, s.wpu.ripe)

/-- A pot whose first qualifying sample comes at 0 is not molten at 119.75 s and becomes so at 120 s (R116). -/
theorem test_melt_hold : melt (melting 119750).takePot = (false, some 0, none) ∧
    melt (melting 120000).takePot = (true, some 0, some 120000) := by decide

/-- Lowering the melt hold after the sample of an instant does not let POT_MOLTEN_SET act before the next sample (R116). -/
theorem test_melt_hold_applies_from_next_sample :
    exec .potMoltenSet { (melting 119750).takePot with params := { (machine .run).params with meltHold := 30 } } =
      .next { (melting 119750).takePot with params := { (machine .run).params with meltHold := 30 } } := rfl

def withPump (p : Pump) (u : PumpState) (s : State) : State := { s with wpu := { s.wpu with pumps := s.wpu.pumps.set p u } }
def cooling (minOff : Nat) : State :=
  withPump .chip { PumpState.initial false with stage := .cooldown, minOff := minOff } (machine .run)

theorem witness_PumpMotion : (melting 120000).timeMs.toNat % 250 = 0 ∧ (melting 120000).activeProfile = some profile ∧
    (melting 120000).hcu.ch.pot.tcOpen = false ∧ (profile.pot : Int) - (profile.band : Int) ≤ 2550 ∧
    (2549 : Int) < (profile.pot : Int) - (profile.band : Int) ∧ (melting 120000).wpu.ripe ≠ some (melting 120000).timeMs ∧
    ripe.wpu.molten = false ∧ ripe.wpu.ripe = some ripe.timeMs ∧ ripe.timeMs.toNat % 100 = 0 ∧ ((machine .run).wpu.pumps.get .chip).feedback ≠ false ∧
    ((cooling 5000).wpu.pumps.get .chip).stage = .cooldown ∧
    (cooling 5000).params.minimumOff * 1000 ≤ ((cooling 5000).wpu.pumps.get .chip).minOff ∧
    (withPump .chip { PumpState.initial false with stage := .off, minOff := 5000 } (machine .run)).mayStart .chip = true ∧
    (machine .run).psc.state = .run ∧
    (withPump .chip { PumpState.initial false with fault := true } (machine .run)).mayStart .chip = false := by decide

theorem witness_PumpMotion_dipped : (withPump .chip { PumpState.initial false with stage := .off, minOff := 5000 }
      (machine (.hold .holding .run))).mayStart .chip = true ∧
    (machine (.hold .holding .run)).psc.state = .hold .holding .run := by decide

def failing (n : Nat) : State := withPump .main { running 600 with feedback := false, absent := n } (machine .run)

theorem witness_PumpFaultStopsPump : ((failing 500).wpu.pumps.get .main).fault = false ∧
    0 < ((failing 500).wpu.pumps.get .main).reference ∧ ((failing 500).wpu.pumps.get .main).feedback = false ∧
    500 ≤ ((failing 500).wpu.pumps.get .main).absent ∧ (failing 500).psc.state = .run := by decide

theorem witness_WaveOrders : (machine .run).Accepts .waveUp .m [] ∧ (machine .standby).Accepts .waveDown .t [] ∧
    (machine .run).Accepts .ackPump .t [] :=
  ⟨accepts (by decide), accepts (by decide), accepts (by decide)⟩

/-! ### The Level Unit -/

def withLevel (f : Lvu → Lvu) (s : State) : State := { s with lvu := f s.lvu }

/-- A PARKED probe with a request pending, at a time in ms. -/
def requested (due : Bool) (time : Word) : State :=
  withTime time (withLevel (fun u => { u with request := some 0, startDue := due }) (machine .run))
/-- A machine with PRB_HOME at `home`. -/
def atHome (home : Bool) (s : State) : State := { s with pins := { s.pins with probeHome := home } }

theorem witness_ProbeCycle_start : (requested false 100).timeMs.toNat % 100 = 0 ∧ (requested true 101).lvu.startDue = true ∧
    (requested true 101).lvu.request ≠ none ∧ (requested true 101).lvu.probe = .parked ∧
    (requested true 101).psc.state = .run ∧ (requested true 101).wpu.molten = true ∧
    (∀ p, ((requested true 101).wpu.pumps.get p).stage = .running ∨ ((requested true 101).wpu.pumps.get p).stage = .off) ∧
    (requested true 101).ctr.occupancy = 0 ∧ (requested true 101).ctr.table = [] ∧ (requested true 101).lvu.feeder = .idle ∧
    (requested true 101).lvu.probeFault = false ∧
    ¬((requested false 101).timeMs.toNat % 100 = 0 ∨ (requested false 101).lvu.startDue = true) :=
  ⟨by decide, by decide, by decide, by decide, by decide, by decide, fun p => by cases p <;> decide, by decide, by decide,
    by decide, by decide, by decide⟩

theorem witness_ProbeCycle_moves : (probing .descending 599 20 0).lvu.probe = .descending ∧
    20 ≤ (probing .descending 599 20 0).lvu.pace ∧ (probing .descending 599 20 0).lvu.steps < 600 ∧
    (probing .descending 599 19 0).lvu.pace < 20 ∧ (probing .descending 599 19 0).lvu.unread = false ∧
    (withLevel (fun u => { u with unread := true }) (probing .descending 1 0 0)).lvu.unread = true ∧
    600 ≤ (probing .descending 600 20 0).lvu.steps ∧ (probing .contact 318 0 199).lvu.probe = .contact ∧
    (probing .contact 318 0 199).lvu.contactTimer < 200 ∧ 200 ≤ (probing .contact 318 0 200).lvu.contactTimer ∧
    (atHome false (probing .contact 318 0 200)).pins.probeHome = false ∧ (probing .contact 318 0 200).pins.probeHome = true ∧
    (probing .ascending 699 20 0).lvu.probe = .ascending ∧ (probing .ascending 699 20 0).lvu.steps < 700 ∧
    (probing .ascending 699 19 0).lvu.pace < 20 ∧ 700 ≤ (probing .ascending 700 20 0).lvu.steps ∧
    (withLevel (fun u => { u with unread := true }) (probing .ascending 1 0 0)).lvu.unread = true := by decide

def measured (l : Int) (budget : Nat) : State :=
  withLevel (fun u => { u with last := some (l, 654), budget := budget }) (machine .run)

theorem witness_FeedDecisionTakesFirstCase : (measured 0 1000).lvu.last = some (0, 654) ∧
    (measured 0 1000).lvu.target ≤ 0 ∧
    ¬((measured (-1) 1000).psc.state = .standby ∨ (measured (-1) 1000).psc.state.isTrip = true ∨
      (measured (-1) 1000).lvu.target ≤ -1 ∨ (measured (-1) 1000).lvu.high = true ∨ (measured (-1) 1000).lvu.wireOut = true) ∧
    (measured (-1) 0).lvu.budget = 0 ∧ 0 < (measured (-1) 1).lvu.budget ∧ (((0 : Int) - -1) * 1).tdiv 16 = 0 ∧
    ((((measured (-1) 1).lvu.target - -1) * (measured (-1) 1).params.feedGain).tdiv 16) ≠ 0 := by decide

/-- WIRE_END at a level, its qualify time at `n` tenths of a millisecond. -/
def wireHeld (active : Bool) (n : Nat) : State :=
  let s := withLevel (fun u => { u with wireTimer := n }) (machine .run)
  { s with pins := { s.pins with wireEnd := active } }

theorem witness_LevelScheduleAndFeed :
    (withLevel (fun u => { u with interval := some 60000 }) (machine .run)).lvu.interval = some 60000 ∧
    (machine .run).params.levelInterval * 1000 ≤ 60000 ∧ (withTime 90000 (machine .run)).timeMs.toNat % 100 = 0 ∧
    (withLevel (fun u => { u with request := some 0 }) (machine .run)).lvu.request = some 0 ∧ (machine .run).lvu.gap = false ∧
    (machine .run).params.deferral * 1000 ≤ ((withTime 90000 (machine .run)).timeMs - 0).toNat ∧
    (withLevel (fun u => { u with feeder := .feeding 1 1, feedPace := 50 }) (machine .run)).lvu.feeder = .feeding (0 + 1) 1 ∧
    50 ≤ (withLevel (fun u => { u with feeder := .feeding 0 2, feedPace := 50 }) (machine .run)).lvu.feedPace ∧
    (withLevel (fun u => { u with feeder := .feeding 0 2, feedPace := 50 }) (machine .run)).lvu.feeder = .feeding 0 2 ∧
    (withLevel (fun u => { u with feeder := .settling, settleTimer := 30000 }) (machine .run)).lvu.feeder = .settling ∧
    (machine .run).params.meltSettle * 1000 ≤ 30000 ∧ (withTime 60000 (machine .run)).timeMs.toNat % 60000 = 0 ∧
    (wireHeld true 499).lvu.wireTimer < 500 ∧ (wireHeld true 500).pins.wireEnd = true ∧
    (wireHeld true 500).lvu.wireOut = false ∧ 500 ≤ (wireHeld true 500).lvu.wireTimer := by decide

/-- An input that was not active lets no qualify time run, whatever comes next; one active for 50 ms latches (R149). -/
theorem test_wire_end_is_qualified : (wireHeld false 499).tick.lvu.wireTimer = 0 ∧ (wireHeld false 500).wireDue = false ∧
    (wireHeld true 499).wireDue = false ∧ (wireHeld true 500).wireDue = true := ⟨rfl, rfl, rfl, rfl⟩

theorem witness_LevelScheduleAndFeed_ack : (machine .run).Accepts .ackLevel .t [] ∧ (machine .run).lvu.probeFault = false ∧
    (withLevel (fun u => { u with probeFault := true }) (machine .run)).lvu.probeFault = true ∧
    (withLevel (fun u => { u with probeFault := true }) (machine .run)).lvu.probe ≠ .halted ∧
    (withLevel (fun u => { u with probeFault := true, probe := .halted }) (machine .run)).lvu.probe = .halted ∧
    (machine .run).pins.probeHome = true ∧ (atHome false (machine .run)).pins.probeHome = false :=
  ⟨accepts (by decide), by decide, by decide, by decide, by decide, by decide, by decide⟩

/-! ### The Extraction Monitor -/

theorem witness_HoodSampleCountsAndLatches : (withTime 100 (machine .run)).timeMs.toNat % 100 = 0 := by decide

/-- The WAVE hood, under DRAIN_THEN_TRIP, 100 ms before its grace runs out while it is loss-active. -/
def escalating : State := withTime 100
  (onHood .wave (fun u => { u with lossActive := true, timer := 179900, supervised := false }) (machine .run))

theorem witness_HoodSampleCountsAndLatches_escalation : escalating.timeMs.toNat % 100 = 0 ∧
    (escalating.params.hoods.get .wave).enabled = true ∧ escalating.psc.state.heatEn = true ∧
    (escalating.params.hoods.get .wave).policy = .drainThenTrip ∧ (escalating.exm.hoods.get .wave).lossActive = true ∧
    (escalating.exm.hoods.get .wave).escalated = false ∧ (escalating.exm.hoods.get .wave).holdOff - 1 = 0 ∧
    (escalating.params.hoods.get .wave).grace * 1000 ≤ (escalating.exm.hoods.get .wave).timer + 100 ∧
    ¬(3500 ≤ 3499 ∧ 3499 ≤ 21000) ∧ (escalating.exm.hoods.get .wave).supervised = false := by decide

theorem witness_HoodFlagsAndAcknowledgement : ((machine .run).params.hoods.get .wave).enabled = true ∧
    (machine .run).heatEn = true ∧ ((machine .run).exm.hoods.get .wave).holdOff = 0 ∧
    20 ≤ ((onHood .wave (fun u => { u with fanOff := 20 }) (machine .run)).exm.hoods.get .wave).fanOff ∧
    ((onHood .wave (fun u => { u with fanOff := 20 }) (machine .run)).exm.hoods.get .wave).fanStop = false ∧
    ((machine .run).exm.hoods.get .wave).flowLoss = false ∧ ((machine .run).exm.hoods.get .wave).flowWarn = false ∧
    ((machine .run).exm.hoods.get .wave).qualify * 10 ≤
      ((onHood .wave (fun u => { u with loss := 30 }) (machine .run)).exm.hoods.get .wave).loss ∧
    ((machine .run).exm.hoods.get .wave).qualify * 10 ≤
      ((onHood .wave (fun u => { u with warn := 30 }) (machine .run)).exm.hoods.get .wave).warn ∧
    ((machine .run).params.hoods.get .wave).policy = .drainThenTrip ∧
    ((machine .run).exm.hoods.get .wave).grace * 1000 ≤
      ((onHood .wave (fun u => { u with timer := 180000 }) (machine .run)).exm.hoods.get .wave).timer ∧
    ((onHood .wave (fun u => { u with lossActive := true, good := 30 }) (machine .run)).exm.hoods.get .wave).lossActive = true ∧
    ((machine .run).exm.hoods.get .wave).proven = false ∧
    ((machine .run).exm.hoods.get .wave).proveTime * 10 ≤
      ((onHood .wave (fun u => { u with good := 100 }) (machine .run)).exm.hoods.get .wave).good := by decide

theorem witness_HoodFlagsAndAcknowledgement_ack : (machine .run).Accepts .ackHood .t [3#8] ∧ 2 < byteAt [3#8] 0 ∧
    (machine .run).Accepts .ackHood .t [2#8] ∧ byteAt [2#8] 0 = 2 :=
  ⟨accepts (by decide), by decide, accepts (by decide), by decide⟩

/-! ### The Process State Controller -/

theorem witness_TripEntryStopsTheMachine : (machine .run).psc.state.isTrip = false ∧ (machine .run).Accepts .trip .t [] ∧
    (machine .run).psc.estop = false ∧ (machine (.trip .command)).psc.state.isTrip = true ∧
    (machine (.trip .command)).Accepts .trip .t [] ∧ { (machine .run).psc with estop := true }.estop = true :=
  ⟨by decide, accepts (by decide), by decide, by decide, accepts (by decide), by decide⟩

/-- A machine in STANDBY whose hoods are all proven. -/
def proven (s : State) : State := { s with exm := { hoods := s.exm.hoods.map fun u => { u with proven := true } } }

/-- A Z1 reading above the limit that WARM brings into force. -/
def hotStandby : State := proven ((machine .standby).modCh .z1 fun u => { u with sample := .valid 1351 })

theorem witness_HeaterFaultsLatch_warm : hotStandby.Accepts .warm .t [] ∧ (hotStandby.hcu.ch.get .z1).sample = .valid 1351 ∧
    (hotStandby.hcu.ch.get .z1).overtemp = false ∧ hotStandby.activeProfile = some profile ∧
    min ((profile.setpoint .z1 : Int) + (hotStandby.hcu.ch.get .z1).margin) 4000 < 1351 ∧
    hotStandby.extractionReady = true ∧ hotStandby.warmReady = true :=
  ⟨accepts (by decide), by decide, by decide, by decide, by decide, by decide, by decide⟩

theorem witness_WarmCoolAndClear_warm : (machine .standby).Accepts .warm .t [] ∧ State.reset.rps.active = none ∧
    (machine .standby).rps.active ≠ none ∧ (machine .standby).extractionProven = false ∧
    (proven (machine .standby)).extractionProven = true ∧ (proven (machine .standby)).extractionLost = false ∧
    25 ≤ ((withTime 25 (machine .standby)).timeMs - (withTime 25 (machine .standby)).hcu.lastHalf).toNat ∧
    (proven (machine .standby)).heaterFault = false ∧
    ((withTime 24 (machine .standby)).timeMs - (withTime 24 (machine .standby)).hcu.lastHalf).toNat < 25 ∧
    (proven (machine .standby)).conditions.trip = false ∧
    (∀ q k x, (machine .standby).activeProfile = some q → ((machine .standby).hcu.ch.get k).sample = .valid x →
      x ≤ min ((q.setpoint k : Int) + ((machine .standby).hcu.ch.get k).margin) 4000) ∧
    ((machine .standby).activeProfile = none →
      ∀ k x, ((machine .standby).hcu.ch.get k).sample = .valid x → x ≤ 4000) := by
  refine ⟨accepts (by decide), by decide, by decide, by decide, by decide, by decide, by decide, by decide, by decide,
    by decide, ?_, fun h => absurd h (by decide)⟩
  intro q k x hq hx
  have : q = profile := by
    have : (machine .standby).activeProfile = some profile := by decide
    rw [this] at hq; exact (Option.some.inj hq).symm
  subst this
  cases k <;> simp [machine, heater, PerChannel.get, Heater.initial] at hx <;> subst hx <;> decide

theorem witness_WarmCoolAndClear_cool : (machine .standby).Accepts .cool .t [] ∧ (machine .ready).Accepts .cool .t [] ∧
    (machine .ready).psc.state ≠ .standby ∧ (∀ k x, ((machine .ready).hcu.ch.get k).sample = .valid x → x ≤ 4000) ∧
    (machine (.trip .command)).Accepts .clear .t [] ∧ (machine (.trip .command)).psc.estop = false ∧
    25 ≤ ((withTime 25 (machine (.trip .command))).timeMs - (withTime 25 (machine (.trip .command))).hcu.lastHalf).toNat := by
  refine ⟨accepts (by decide), accepts (by decide), by decide, ?_, accepts (by decide), by decide, by decide⟩
  intro k x hx
  cases k <;> simp [machine, heater, PerChannel.get, Heater.initial] at hx <;> subst hx <;> decide

theorem witness_StartStopHoldAndResume : (machine .ready).Accepts .start .t [] ∧ (machine .run).Accepts .start .t [] ∧
    ((machine .ready).ctr.mapValid = true ∧ (machine .ready).rps.settle = .settled ∧ (machine .ready).waveReady = true ∧
      (machine .ready).conditions.drain = false ∧ (machine .ready).extractionLost = false) ∧
    (∀ k, ((machine .ready).wpu.pumps.get k).fault = false) ∧ (machine .ready).nextProfile = (machine .ready).rps.active ∧
    State.reset.ctr.mapValid = false ∧ (machine .run).Accepts .stop .m [] ∧ (machine .run).ctr.table = [] ∧
    overfull.ctr.table ≠ [] ∧ (machine .drain).Accepts .stop .t [] ∧ (machine (.hold .holding .run)).Accepts .stop .t [] ∧
    (machine .run).Accepts .hold .m [] ∧ (machine .drain).Accepts .hold .m [] ∧
    (machine (.hold .resuming .run)).Accepts .hold .m [] ∧ (machine (.hold .holding .run)).Accepts .resume .m [] ∧
    (machine (.hold .resuming .run)).Accepts .resume .t [] ∧ (machine (.hold .holding .run)).ctr.trackAlert = false ∧
    ((failing 0).latchPump .main).anyPumpFault = true :=
  ⟨accepts (by decide), accepts (by decide), by decide, fun k => by cases k <;> decide, by decide, by decide,
    accepts (by decide), by decide, by decide, accepts (by decide), accepts (by decide), accepts (by decide),
    accepts (by decide), accepts (by decide), accepts (by decide), accepts (by decide), by decide, by decide⟩

/-! ### Outcomes, incidents, events, parameters and alarm lines -/

/-- One outcome, number 57. -/
def oneOutcome : State :=
  { machine .standby with oq := ⟨[outcomeOf 57 1000 false (board 0 .exiting (some 2000))], 57⟩ }

theorem witness_RecordAndEventCommands : (machine .run).Accepts .popOutcome .l [] ∧ (machine .run).oq.outcomes = [] ∧
    oneOutcome.oq.outcomes = outcomeOf 57 1000 false (board 0 .exiting (some 2000)) :: [] ∧
    oneOutcome.Accepts .popOutcome .t (put4 41) ∧ (put4 41).length = 4 ∧
    BitVec.ofNat 32 (longAt (put4 41) 0) ≠ (outcomeOf 57 1000 false (board 0 .exiting (some 2000))).number ∧
    BitVec.ofNat 32 (longAt (put4 57) 0) = (outcomeOf 57 1000 false (board 0 .exiting (some 2000))).number ∧
    (machine .run).Accepts .clearIncidents .t [] ∧ (machine .run).Accepts .setEventMask .l [64#8] ∧ 63 < byteAt [64#8] 0 ∧
    byteAt [63#8] 0 ≤ 63 ∧ (machine .run).Accepts .getEvents .m [] :=
  ⟨accepts (by decide), by decide, by decide, accepts (by decide), by decide, by decide, by decide, accepts (by decide),
    accepts (by decide), by decide, by decide, accepts (by decide)⟩

/-- SET_PARAM requests: of an identifier past the table, of the alarm mode 3 of ALM2, of W at C, and of the stall timeout. -/
def paramRequest (id index : Byte) (v : Int) : List Byte := [id, index] ++ putS4 v

theorem witness_ParametersAndAlarmLines : (machine .run).Accepts .setParam .t (paramRequest 41 0 0) ∧
    paramOf (byteAt (paramRequest 41 0 0) 0) (byteAt (paramRequest 41 0 0) 1) = none ∧
    paramOf (byteAt (paramRequest 39 1 3) 0) (byteAt (paramRequest 39 1 3) 1) = some (.mode .alm2) ∧
    (ParamId.mode .alm2).coded = true ∧ (ParamId.mode .alm2).range.2 < signedLongAt (paramRequest 39 1 3) 2 ∧
    ParamId.levelW.coded = false ∧ signedLongAt (paramRequest 24 0 (-60)) 2 = -60 ∧
    ParamId.levelW.refusal (ParamId.levelW.put (-60) (machine .run).params) (machine .run) = some .range ∧
    ParamId.levelW.refusal (ParamId.levelW.put (-59) (machine .run).params) (machine .run) = none ∧
    (machine .run).Accepts .ackTrack .m [] ∧ (machine .run).Accepts .silence .t [] ∧
    (withTime 250 (machine .run)).timeMs.toNat % 250 = 0 :=
  ⟨accepts (by decide), by decide, by decide, by decide, by decide, by decide, by decide, by decide, by decide,
    accepts (by decide), accepts (by decide), by decide⟩

theorem witness_ParametersAndAlarmLines_effects :
    paramOf (byteAt (paramRequest 31 2 0) 0) (byteAt (paramRequest 31 2 0) 1) = some (.hoodEnable .wave) ∧
    signedLongAt (paramRequest 31 2 0) 2 = 0 ∧ (machine .standby).psc.state = .standby ∧
    ((machine .standby).params.hoods.get .wave).enabled = true ∧ (ParamId.hoodEnable .wave).range = (0, 1) ∧
    paramOf (byteAt (paramRequest 35 0 4) 0) (byteAt (paramRequest 35 0 4) 1) = some (.policy .flux) ∧
    signedLongAt (paramRequest 35 0 4) 2 = 4 ∧
    (onHood .flux (fun u => { u with fanStop := true }) (machine .run)).hoodLost .flux = true ∧
    (onHood .flux (fun u => { u with fanStop := true }) (machine .run)).conditions.hoodTrip = false ∧
    (onHood .flux (fun u => { u with fanStop := true }) overfull).conditions.hoodDrain = false ∧ overfull.ctr.table ≠ [] ∧
    paramOf (byteAt (paramRequest 40 1 0) 0) (byteAt (paramRequest 40 1 0) 1) = some (.silenceable .alm2) := by decide

theorem witness_PinResetAndRestart : (machine .standby).Accepts .restart .t [2#8] ∧ 1 < byteAt [2#8] 0 ∧
    oneOutcome.Accepts .restart .t [0#8] ∧ byteAt [0#8] 0 = 0 ∧ oneOutcome.oq.outcomes ≠ [] ∧ byteAt [1#8] 0 = 1 ∧
    (machine .standby).oq.outcomes = [] ∧ oneOutcome.Accepts .restart .t [1#8] ∧ byteAt [1#8] 0 ≤ 1 ∧
    { oneOutcome.pins with estopActive := true }.estopActive = true :=
  ⟨accepts (by decide), by decide, accepts (by decide), by decide, by decide, by decide, by decide, accepts (by decide),
    by decide, rfl⟩

end Sys2Proof.Tests
end

