-- ==== Sys2Proof/Proofs/EncoderGlitch.lean ====
section
/-! The quadrature glitch (R4): the decoding of a change of both lines, the marks and the incident of a glitch, and the
statement GlitchKeepsPosition. -/

namespace Sys2Proof.Machine

/-- Both encoder lines at the opposite level, on the pins and as the accepted state. -/
def State.takeBothLines (s : State) : State :=
  (s.encoderPins (!s.ctr.encA) (!s.ctr.encB)).acceptLines (!s.ctr.encA) (!s.ctr.encB)

@[simp] theorem State.takeBothLines_timeMs (s : State) : s.takeBothLines.timeMs = s.timeMs := rfl
@[simp] theorem State.takeBothLines_inl (s : State) : s.takeBothLines.inl = s.inl := rfl

/-- A change of both lines is two places away in the cycle of R1, whichever state was accepted. -/
theorem turnOf_not_not (a b : Bool) : turnOf a b (!a) (!b) = .glitch := by
  cases a <;> cases b <;> rfl

/-- The row QUADRATURE_GLITCH. -/
theorem exec_quadratureGlitch (s : State) : exec .quadratureGlitch s = .next s.takeBothLines.glitch := rfl

/-- The row ENCODER_COUNT. -/
theorem exec_encoderCount (a b : Bool) (s : State) : exec (.encoderCount a b) s = execEncoderCount a b s := rfl

/-- The row ENCODER_COUNT with both lines changed does what QUADRATURE_GLITCH does (DEDUCED, notes/assumptions/43.md). -/
theorem exec_encoderCount_bothLines (s : State) :
    exec (.encoderCount (!s.ctr.encA) (!s.ctr.encB)) s = .next s.takeBothLines.glitch := by
  simp only [exec_encoderCount, execEncoderCount, turnOf_not_not, State.takeBothLines]

/-- With no incident in the list, a glitch is always noted. -/
theorem State.glitch_of_getLast?_eq_none {s : State} (hlast : s.inl.incidents.getLast? = none) :
    s.glitch = s.allUnsure.addIncident .encoderGlitch none none none := by
  simp only [State.glitch, hlast]

/-- The newest incident decides whether a glitch is noted: not behind an ENCODER_GLITCH less than 1000 ms old. -/
theorem State.glitch_of_getLast?_eq_some {s : State} {i : Incident} (hlast : s.inl.incidents.getLast? = some i) :
    s.glitch = if i.code = .encoderGlitch ∧ (s.timeMs - i.time).toNat < 1000 then s.allUnsure
      else s.allUnsure.addIncident .encoderGlitch none none none := by
  simp only [State.glitch, hlast, Bool.and_eq_true, beq_iff_eq, decide_eq_true_eq]
  rfl

/-- A glitch changes the Conveyor Tracker by its marks alone, noted or not. -/
theorem State.glitch_ctr (s : State) : s.glitch.ctr = s.allUnsure.ctr := by
  cases hlast : s.inl.incidents.getLast? with
  | none => rw [State.glitch_of_getLast?_eq_none hlast, State.addIncident_ctr]
  | some i =>
    rw [State.glitch_of_getLast?_eq_some hlast]
    split
    · rfl
    · rw [State.addIncident_ctr]

end Sys2Proof.Machine

open Sys2Proof Sys2Proof.Machine

/-- Settles O23: both rows end in `State.glitch` on the state that has taken the two lines; the newest incident, if there is
one, decides between the two outcomes that the statement writes out. -/
theorem glitchKeepsPosition : Obligations.GlitchKeepsPosition := by
  intro s marked t
  have hmarked : s.takeBothLines.allUnsure = marked := rfl
  have ht : s.takeBothLines.glitch = t := by
    cases hlast : s.inl.incidents.getLast? with
    | none =>
      rw [State.glitch_of_getLast?_eq_none (by rw [State.takeBothLines_inl, hlast]), hmarked]
      simp only [t, hlast]
    | some i =>
      rw [State.glitch_of_getLast?_eq_some (by rw [State.takeBothLines_inl, hlast]), State.takeBothLines_timeMs, hmarked]
      simp only [t, hlast]
  have hctr : t.ctr = marked.ctr := by rw [← ht, State.glitch_ctr, hmarked]
  exact ⟨by rw [exec_quadratureGlitch, ht], by rw [exec_encoderCount_bothLines, ht], (congrArg Ctr.pos hctr :),
    (congrArg Ctr.hwm hctr :), (congrArg Ctr.excursion hctr :), (congrArg Ctr.net hctr :),
    (congrArg Ctr.stallTimer hctr :)⟩

end

section
/-! The ticket withdrawal and the default designation (R30, R32): a command that its port takes at once, the cases of
WITHDRAW_TICKET and SET_DEFAULT, what a finished event and the three resets leave of the designation, and the statements
WithdrawTicketRemovesYoungest and SetDefaultReplacesDesignation. -/

namespace Sys2Proof.Machine

/-! ## A command that its port takes at once -/

/-- A command whose frame passes each check of R198 on an idle port has its own rule run and answered. -/
theorem exec_instr_of_accepts {c : Cmd} {p : Port} {pl : List Byte} {s : State} (h : s.Accepts c p pl) :
    exec (c.instr p pl) s = .next ((c.run p pl (s.hunt p)).2.respond p c.code (c.run p pl (s.hunt p)).1) := by
  rw [exec_instr, State.frameArrives_idle h.waiting h.answering, State.takeFrame_command,
    State.takeCommand_run (s := s.hunt p) h.rights h.length h.available]

/-- The row WITHDRAW_TICKET on an idle Port M: no process state refuses it (Table 11.2). -/
theorem exec_withdrawTicket_idle {s : State} (hw : (s.scp.ports.get .m).waiting = none)
    (ha : (s.scp.ports.get .m).answering = none) :
    exec (.withdrawTicket .m []) s =
      .next ((cmdWithdrawTicket (s.hunt .m)).2.respond .m 0x21#8 (cmdWithdrawTicket (s.hunt .m)).1) :=
  exec_instr_of_accepts (c := .withdrawTicket) ⟨hw, ha, rfl, rfl, rfl⟩

/-- The row SET_DEFAULT on an idle Port T: no process state refuses it (Table 11.2). -/
theorem exec_setDefault_idle {pl : List Byte} {s : State} (hw : (s.scp.ports.get .t).waiting = none)
    (ha : (s.scp.ports.get .t).answering = none) (hl : pl.length = 1) :
    exec (.setDefault .t pl) s =
      .next ((cmdSetDefault pl (s.hunt .t)).2.respond .t 0x23#8 (cmdSetDefault pl (s.hunt .t)).1) :=
  exec_instr_of_accepts (c := .setDefault) ⟨hw, ha, rfl, beq_iff_eq.mpr hl, rfl⟩

/-! ## WITHDRAW_TICKET (R30) -/

theorem cmdWithdrawTicket_of_empty {s : State} (h : s.adu.queue = []) : cmdWithdrawTicket s = refused .empty s := by
  simp only [cmdWithdrawTicket, h, List.getLast?_nil]

theorem cmdWithdrawTicket_of_concat {s : State} {rest : List Ticket} {k : Ticket} (h : s.adu.queue = rest ++ [k]) :
    cmdWithdrawTicket s =
      (answer (putTicket k), ((s.modAdu fun u => { u with queue := rest }).decRef k.recipe).finish) := by
  simp only [cmdWithdrawTicket, State.modAdu, h, List.getLast?_concat, List.dropLast_concat]

/-- The layout of a ticket: a presence byte, the tag or 0, and the recipe (R200). -/
theorem putTicket_eq (k : Ticket) :
    putTicket k = (match k.tag with
      | some x => put1 1 ++ putWord x
      | none => put1 0 ++ putWord 0) ++ put1 k.recipe.val := by
  obtain ⟨tag, i⟩ := k
  cases tag <;> rfl

/-! ## SET_DEFAULT (R32) -/

theorem recipeIndex_of_val_eq {pl : List Byte} {n : Nat} {i : Fin 32} (h : i.val = byteAt pl n) :
    recipeIndex pl n = some i := by
  simp only [recipeIndex, indexOf, ← h, i.isLt, dite_true]

theorem recipeIndex_of_gt {pl : List Byte} {n : Nat} (h : 31 < byteAt pl n) : recipeIndex pl n = none := by
  simp only [recipeIndex, indexOf, dite_eq_right_iff, reduceCtorEq]
  omega

theorem cmdSetDefault_none {pl : List Byte} (h : byteAt pl 0 = 255) (s : State) :
    cmdSetDefault pl s = (okReply, (s.setDefault none).finish) := by
  simp [cmdSetDefault, h]

theorem cmdSetDefault_range {pl : List Byte} (hn : byteAt pl 0 ≠ 255) (h : 31 < byteAt pl 0) (s : State) :
    cmdSetDefault pl s = refused .range s := by
  simp [cmdSetDefault, hn, recipeIndex_of_gt h]

theorem cmdSetDefault_noRecipe {pl : List Byte} {i : Fin 32} {s : State} (hi : i.val = byteAt pl 0)
    (h : s.rps.recipes[i] = none) : cmdSetDefault pl s = refused .noRecipe s := by
  have hn : byteAt pl 0 ≠ 255 := by omega
  simp [cmdSetDefault, hn, recipeIndex_of_val_eq hi, State.recipeAt, h]

theorem cmdSetDefault_loaded {pl : List Byte} {i : Fin 32} {s : State} (hi : i.val = byteAt pl 0)
    (h : s.rps.recipes[i] ≠ none) : cmdSetDefault pl s = (okReply, (s.setDefault (some i)).finish) := by
  have hn : byteAt pl 0 ≠ 255 := by omega
  have hsome : (s.recipeAt i).isNone = false := Option.isNone_eq_false_iff.mpr (Option.isSome_iff_ne_none.mpr h)
  simp [cmdSetDefault, hn, recipeIndex_of_val_eq hi, hsome]

/-! ## What a finished event leaves -/

theorem finish_fixed (s : State) : s.finish.fixed = s.fixed := by
  simp only [State.finish, State.react, followAlarms_fixed, followAdmit_fixed, noteWave_fixed, holdStall_fixed,
    watchSettle_fixed, watchProbe_fixed, followInhibit_fixed, transitions_fixed]

theorem default_eq_of_fixed_eq {s t : State} (h : s.fixed = t.fixed) : s.adu.default = t.adu.default :=
  (congrArg (fun u : State => u.adu.default) h :)

theorem refs_eq_of_fixed_eq {s t : State} (h : s.fixed = t.fixed) : s.rps.refs = t.rps.refs :=
  (congrArg (fun u : State => u.rps.refs) h :)

/-- The fixed part leaves out a record's flux fields and flags, not the recipe that it is bound to. -/
theorem recipes_eq_of_fixed_eq {s t : State} (h : s.fixed = t.fixed) :
    s.ctr.table.map BoardRecord.recipe = t.ctr.table.map BoardRecord.recipe := by
  have htable : s.ctr.table.map BoardRecord.fixed = t.ctr.table.map BoardRecord.fixed :=
    congrArg (fun u : State => u.ctr.table) h
  have hrecipe : BoardRecord.recipe ∘ BoardRecord.fixed = BoardRecord.recipe := rfl
  simpa only [List.map_map, hrecipe] using congrArg (List.map BoardRecord.recipe) htable

@[simp] theorem finish_default (s : State) : s.finish.adu.default = s.adu.default :=
  default_eq_of_fixed_eq (finish_fixed s)

@[simp] theorem finish_refs (s : State) : s.finish.rps.refs = s.rps.refs :=
  refs_eq_of_fixed_eq (finish_fixed s)

theorem finish_recipes (s : State) : s.finish.ctr.table.map BoardRecord.recipe = s.ctr.table.map BoardRecord.recipe :=
  recipes_eq_of_fixed_eq (finish_fixed s)

/-- The default recipe is protected, whatever its reference count (R51). -/
theorem recipeProtected_of_default {s : State} {i : Fin 32} (h : s.adu.default = some i) : s.recipeProtected i = true := by
  simp [State.recipeProtected, h]

/-! ## The designation across the resets (R32) -/

theorem noteEstop_adu (s : State) : s.noteEstop.adu = s.adu := by
  unfold State.noteEstop; split <;> rfl

theorem noteDiscarded_adu (n : Nat) (s : State) : (s.noteDiscarded n).adu = s.adu := by
  unfold State.noteDiscarded; split <;> rfl

theorem powerOn_default (pins : InputPins) (s : State) : (s.powerOn pins).adu.default = none := rfl

theorem pinReset_default (pins : InputPins) (s : State) : (s.pinReset pins).adu.default = s.adu.default := rfl

theorem restart_default (s : State) : s.restart.adu.default = s.adu.default :=
  calc s.restart.adu.default
      = ((s.restartBlocks.followInhibit.noteEstop).noteDiscarded s.oq.outcomes.length).adu.default := rfl
    _ = s.restartBlocks.followInhibit.adu.default := by rw [noteDiscarded_adu, noteEstop_adu]
    _ = s.restartBlocks.adu.default := default_eq_of_fixed_eq (followInhibit_fixed _)
    _ = s.adu.default := rfl

end Sys2Proof.Machine

open Sys2Proof Sys2Proof.Machine

/-- Settles O32: Port M takes the command in every process state, and the queue's two shapes, empty and with a youngest ticket
at its end, are the two cases of the command's own rule. -/
theorem withdrawTicketRemovesYoungest : Obligations.WithdrawTicketRemovesYoungest := by
  intro pl s hw ha hpl
  subst hpl
  rw [exec_withdrawTicket_idle hw ha]
  constructor
  · intro hempty
    rw [cmdWithdrawTicket_of_empty (s := s.hunt .m) hempty]
    rfl
  · intro k rest hqueue removed
    refine ⟨?_, rfl, fun hrest => ?_⟩
    · rw [cmdWithdrawTicket_of_concat (s := s.hunt .m) hqueue, putTicket_eq]
      rfl
    · subst hrest
      rfl

/-- Settles O33: the byte is none, out of range or an index, which are the cases of the command's own rule; the rest follows
from what a finished event and each reset leave of the state. -/
theorem setDefaultReplacesDesignation : Obligations.SetDefaultReplacesDesignation := by
  refine ⟨?_, fun s pins => powerOn_default pins s, fun s pins => pinReset_default pins s, restart_default⟩
  intro pl s hw ha hl designated
  rw [exec_setDefault_idle hw ha hl]
  refine ⟨fun hnone => ?_, fun hn hrange => ?_, fun i hi => ⟨fun hempty => ?_, fun hloaded => ?_⟩⟩
  · rw [cmdSetDefault_none hnone]
    rfl
  · rw [cmdSetDefault_range hn hrange]
    rfl
  · rw [cmdSetDefault_noRecipe (s := s.hunt .t) hi hempty]
    rfl
  · have hdefault : (designated (some i)).adu.default = some i := finish_default _
    refine ⟨?_, finish_refs _, hdefault, recipeProtected_of_default hdefault, finish_recipes _⟩
    rw [cmdSetDefault_loaded (s := s.hunt .t) hi hloaded]
    rfl

end

section
/-! The pyrometer sample (R111): the value of a sample, the state that PYRO_SAMPLE leaves, what the three resets leave of the
latest sample, and the statement PyroSampleReplacesLatest. -/

namespace Sys2Proof.Machine

/-! ## The value of a sample -/

theorem le_clampInt {lo hi : Int} (h : lo ≤ hi) (v : Int) : lo ≤ clampInt lo hi v := by
  unfold clampInt
  split_ifs <;> omega

theorem currentValid_iff (i : Nat) : currentValid i = true ↔ 3500 ≤ i ∧ i ≤ 21000 := by
  simp only [currentValid, Bool.and_eq_true, decide_eq_true_eq]

/-- The clamp at 0 comes before the reading as a natural number, which therefore loses nothing. -/
theorem currentValue_cast (span i : Nat) :
    (currentValue span i : Int) = clampInt 0 span ((((i : Int) - 4000) * (span : Int)).tdiv 16000) :=
  Int.toNat_of_nonneg (le_clampInt (Int.natCast_nonneg span) _)

theorem pyroSample_eq (i : Nat) :
    pyroSample i = if 3500 ≤ i ∧ i ≤ 21000 then .valid (clampInt 0 3000 ((((i : Int) - 4000) * 3000).tdiv 16000))
      else .invalid := by
  simp only [pyroSample, currentValid_iff, currentValue_cast, Nat.cast_ofNat]

/-! ## The row PYRO_SAMPLE -/

theorem exec_pyroSample (current : Nat) (s : State) : exec (.pyroSample current) s = execPyroSample current s := rfl

theorem State.atMultiple_iff (s : State) (n : Nat) : s.atMultiple n = true ↔ s.timeMs.toNat % n = 0 := beq_iff_eq

/-- No guard on the process state stands in the row: the instant alone decides. -/
theorem exec_pyroSample_due {s : State} (h : s.timeMs.toNat % 10 = 0) (current : Nat) :
    exec (.pyroSample current) s = .next (s.modHcu fun u => { u with pyro := pyroSample current }) := by
  rw [exec_pyroSample, execPyroSample, whenDue_true _ _ ((s.atMultiple_iff 10).mpr h)]

/-! ## The latest sample across the resets -/

theorem noteEstop_hcu (s : State) : s.noteEstop.hcu = s.hcu := by
  unfold State.noteEstop
  split
  · rw [State.endSilence_hcu, State.addIncident_hcu]
  · rfl

theorem noteDiscarded_hcu (n : Nat) (s : State) : (s.noteDiscarded n).hcu = s.hcu := by
  unfold State.noteDiscarded
  split
  · rfl
  · rw [State.addIncident_hcu]

theorem followAlarms_hcu (s : State) : s.followAlarms.hcu = s.hcu := rfl

/-- The fixed part leaves out the channels of the HCU, not its pyrometer. -/
theorem pyro_eq_of_fixed_eq {s t : State} (h : s.fixed = t.fixed) : s.hcu.pyro = t.hcu.pyro :=
  (congrArg (fun u : State => u.hcu.pyro) h :)

theorem hardReset_pyro (pins : InputPins) (s : State) : (s.hardReset pins).hcu.pyro = .none := rfl

theorem restartBlocks_pyro (s : State) : s.restartBlocks.hcu.pyro = .none := rfl

theorem powerOn_pyro (pins : InputPins) (s : State) : (s.powerOn pins).hcu.pyro = .none := by
  rw [State.powerOn, followAlarms_hcu, hardReset_pyro]

theorem pinReset_pyro (pins : InputPins) (s : State) : (s.pinReset pins).hcu.pyro = .none := by
  rw [State.pinReset, followAlarms_hcu, hardReset_pyro]

/-- RESTART clears the sample with its blocks; the inhibit, the incidents and the alarm lines that follow leave it. -/
theorem restart_pyro (s : State) : s.restart.hcu.pyro = .none := by
  rw [State.restart, followAlarms_hcu, noteDiscarded_hcu, noteEstop_hcu, pyro_eq_of_fixed_eq (followInhibit_fixed _),
    restartBlocks_pyro]

end Sys2Proof.Machine

open Sys2Proof Sys2Proof.Machine

/-- Settles O44: at a multiple of 10 ms the row writes the sample alone, the sample is R111's formula, and each reset clears
it. -/
theorem pyroSampleReplacesLatest : Obligations.PyroSampleReplacesLatest := by
  refine ⟨fun current s hdue => ?_, fun s pins => ⟨powerOn_pyro pins s, pinReset_pyro pins s, restart_pyro s⟩⟩
  rw [exec_pyroSample_due hdue, pyroSample_eq]
  rfl

end
